-- ==== Sys2Proof/Word.lean ====
section
/-!
DEFINITION. The word types of LEDCORE and the fixed-size tables built from them.
Every quantity is unsigned (spec/00_scope.md R11, R16).
-/

namespace Sys2Proof

/-- An 8-bit byte: a colour channel, a report byte, a waveform byte, a `GET` index (R10). -/
abbrev Byte := BitVec 8

/-- A 2-bit power-state code (spec/10_state.md R26). -/
abbrev PsCode := BitVec 2

/-- The 5-bit LED index a group header carries (spec/30_encoding.md R92). -/
abbrev LedIdx := BitVec 5

/-- A 24-bit GRB word (spec/43_waveform_encoder.md R181). -/
abbrev GrbWord := BitVec 24

/-- The table whose entry `k` is `f k`: the spec's `for k in 0..n-1: X'[k] <- f k`. -/
def tabulate {α : Type} (n : Nat) (f : Fin n → α) : Vector α n :=
  ⟨⟨List.ofFn f⟩, by simp⟩

end Sys2Proof
end

