-- ==== Sys2Proof/Config.lean ====
section
/-!
DEFINITION. The fixed constants of spec/00_scope.md R7 and the two open parameters of R8 and R9.
-/

namespace Sys2Proof.Config

/-- Number of LED entries, `N = 32` (R7). -/
abbrev N : Nat := 32
/-- Preamble bytes of a frame, `PRE = 4` (R7). -/
abbrev PRE : Nat := 4
/-- Post-pad bytes of a frame, `POST = 250` (R7). -/
abbrev POST : Nat := 250
/-- Bytes of a frame, `PRE + N*3*8 + POST = 1022` (R7). -/
abbrev FRAME_LEN : Nat := 1022
/-- Bytes of a command report (R7). -/
abbrev REPORT_LEN : Nat := 64
/-- Groups of a command report (R7). -/
abbrev GROUPS : Nat := 16
/-- Bytes of a group (R7). -/
abbrev GROUP_LEN : Nat := 4
/-- Waveform byte of a logical 1 (R7, R182). -/
abbrev ONE : Byte := 0xF8#8
/-- Waveform byte of a logical 0 (R7, R182). -/
abbrev ZERO : Byte := 0xC0#8
/-- The acknowledgement byte (R7, R131). -/
abbrev ACK_VALUE : Byte := 0x00#8

/-- The open parameters of a built block (R8, R9), each at least 1.
Value 0 has no term: a model refuses it by the type (spec/70_reset_and_hazards.md R266). -/
structure Params where
  /-- `CELL_DIV`, clock cycles per serial line bit (R8). -/
  cellDiv : Nat
  /-- `BLINK_DIV`, clock cycles between two blink ticks (R9). -/
  blinkDiv : Nat
  cellDiv_pos : 0 < cellDiv
  blinkDiv_pos : 0 < blinkDiv
deriving DecidableEq, Repr

/-- The parameters of the block that `State.reset` stands for: the values that
spec/95_test_vectors.md takes "unless a vector says otherwise".
DESIGN CHOICE (log entry 2), unsafe for a claim about `State.reset`'s own tick or frame times.
Every other statement holds for every value, because the parameters stand in the state. -/
def build : Params := ⟨1, 1000000000, by decide, by decide⟩

end Sys2Proof.Config
end

