-- ==== Sys2Proof/Syntax.lean ====
section
/-!
DEFINITION. The 14 operations of spec/opcode_table.json, and the two carriers of an encoding:
the 4 bytes of a command group and the input ports of one cycle (spec/30_encoding.md R90).
-/

namespace Sys2Proof

/-- The 4 bytes of a command group in report order (spec/30_encoding.md R91). -/
structure GroupWord where
  header : Byte
  r : Byte
  g : Byte
  b : Byte
deriving DecidableEq, Repr

/-- The input ports of one cycle (spec/10_state.md R23), less the clock.
`rptData` is the 64 bytes of the 512-bit port `rpt_data`; Decode.lean has its packing (R64). -/
structure Inputs where
  rst : Bool
  rptValid : Bool
  rptData : Vector Byte 64
  clr : Bool
  renderReq : Bool
  rdIdx : Byte
deriving DecidableEq, Repr

/-- The inputs of a cycle of the script line `WAIT`: "every strobe 0 and rpt_valid = 0"
(spec/30_encoding.md R101). R101 gives no `rd_idx` and no `rpt_data` there, nor in a cycle whose lines
have no `GET` or `REPORT`; that they are 0 is the model's choice (log entry 20). -/
def Inputs.quiet : Inputs :=
  { rst := false, rptValid := false, rptData := Vector.replicate 64 0#8,
    clr := false, renderReq := false, rdIdx := 0#8 }

/-- The operations of spec/opcode_table.json, one constructor per row. -/
inductive Instr where
  /-- `NOP`, a group with header 0x00; its colour bytes are carried and ignored (R124). -/
  | nop (r g b : Byte)
  /-- `SET.OFF`; `x` is the reserved header bit 7 (R125). -/
  | setOff (x : Bool) (idx : LedIdx) (r g b : Byte)
  /-- `SET.ON` (R126). -/
  | setOn (x : Bool) (idx : LedIdx) (r g b : Byte)
  /-- `SET.BLINK` (R127). -/
  | setBlink (x : Bool) (idx : LedIdx) (r g b : Byte)
  /-- `SET.PS3` (R128). -/
  | setPs3 (x : Bool) (idx : LedIdx) (r g b : Byte)
  /-- `RST`, the synchronous reset (spec/70_reset_and_hazards.md R251). -/
  | rst
  /-- `REPORT`, a command report offered on `rpt_data` (R121). -/
  | report (data : Vector Byte 64)
  /-- `CLR`, the table-clear strobe (R156). -/
  | clr
  /-- `RENDER`, the external render trigger (R201). -/
  | render
  /-- `GET`, the table read port (R154). -/
  | get (idx : Byte)
  /-- `TICK`, the blink tick (R170). -/
  | tick
  /-- `LAUNCH`, the start of a frame (R202). -/
  | launch
  /-- `SHIFT`, the advance of the serializer (R206). -/
  | shift
  /-- `DONE`, the completion of a frame (R207). -/
  | done
deriving DecidableEq, Repr

end Sys2Proof
end

