-- ==== Sys2Proof/Machine/State.lean ====
section
/-!
DEFINITION. The state of LEDCORE (spec/10_state.md R22), the reset state
(spec/70_reset_and_hazards.md R251), and the reasons a step can stop.
-/

namespace Sys2Proof.Machine

/-- An LED entry `{r, g, b, ps}`, 26 bits (spec/00_scope.md R13, spec/10_state.md R25). -/
structure Entry where
  r : Byte
  g : Byte
  b : Byte
  ps : PsCode
deriving DecidableEq, Repr

/-- `OFF_ENTRY = {r=0, g=0, b=0, ps=0}` (R13). -/
def offEntry : Entry := ⟨0#8, 0#8, 0#8, 0#2⟩

/-- The decoder's microstate (R30): a closed enumeration, so no fourth value exists. -/
inductive DecState where
  /-- No report is held and `rpt_ready = 1`. -/
  | idle
  /-- The decoder applies group `dec_grp` of the captured report. -/
  | run
  /-- All 16 groups are applied and the decoder's render request is pending. -/
  | wait
deriving DecidableEq, Repr

/-- The state of the block in one clock cycle. The first three fields are the model's own: the
parameters, the host's inputs and the read data of the last cycle. The others are the fifteen
registers of spec/10_state.md R22; the two divider counters carry the proofs of their ranges, so no
state holds a value past them. -/
@[ext]
structure State where
  /-- `CELL_DIV` and `BLINK_DIV`, fixed when the block is built; no step changes them (log entry 2). -/
  params : Config.Params
  /-- The host's inputs of the coming cycles, the current cycle first; a cycle past the end of the
  list has quiet inputs (log entry 1). -/
  inputs : List Inputs
  /-- The entry that the read port `rd_*` carried in the last cycle that ran (log entry 3). -/
  rdPort : Entry
  /-- The LED state table `T[0..31]` (R25). -/
  T : Vector Entry 32
  /-- The blink phase, true on the on-phase (R27). -/
  phase : Bool
  /-- The blink divider `blink_cnt` (R28). -/
  blinkCnt : Nat
  /-- Its range 0..BLINK_DIV-1 (R28; spec/00_scope.md R10; log entry 11). -/
  blinkCnt_lt : blinkCnt < params.blinkDiv
  /-- A tick's render request `req_blink` is pending (R29). -/
  reqBlink : Bool
  /-- The decoder's microstate `dec_state` (R30). -/
  decState : DecState
  /-- The group `dec_grp` applied in the current RUN cycle (R31). -/
  decGrp : Fin 16
  /-- The captured report `rpt_buf` (R32). -/
  rptBuf : Vector Byte 64
  /-- `ack_pulse`, which drives `ack_valid` (R33). -/
  ackPulse : Bool
  /-- A table clear `clr_pend` is pending (R34). -/
  clrPend : Bool
  /-- An external render request `req_ext` is pending (R35). -/
  reqExt : Bool
  /-- The frame snapshot `snap[0..31]` (R36). -/
  snap : Vector GrbWord 32
  /-- A frame is in flight, `tx_busy` (R37). -/
  txBusy : Bool
  /-- Position `tx_byte` of the waveform byte being shifted (R38). -/
  txByte : Fin 1022
  /-- Time index `tx_bit` of the line bit within that byte (R39). -/
  txBit : Fin 8
  /-- Clock cycles `cell_cnt` within the current line bit (R40). -/
  cellCnt : Nat
  /-- Its range 0..CELL_DIV-1 (R40; spec/00_scope.md R10; log entry 11). -/
  cellCnt_lt : cellCnt < params.cellDiv
deriving DecidableEq, Repr

/-- The state right after reset of a block built with parameters `p`, before any host input
(R251, R252). Every register's value is the spec's; `inputs` and `rdPort` are the model's choice
(log entries 1 and 3). -/
def State.resetOf (p : Config.Params) : State :=
  { params := p, inputs := [], rdPort := offEntry,
    T := Vector.replicate 32 offEntry, phase := true, blinkCnt := 0,
    blinkCnt_lt := p.blinkDiv_pos, reqBlink := false,
    decState := .idle, decGrp := 0, rptBuf := Vector.replicate 64 0x00#8, ackPulse := false,
    clrPend := false, reqExt := false, snap := Vector.replicate 32 0#24,
    txBusy := false, txByte := 0, txBit := 0, cellCnt := 0,
    cellCnt_lt := p.cellDiv_pos }

/-- The state right after reset, with the parameters of Config.lean (log entries 2 and 10). -/
def State.reset : State := State.resetOf Config.build

/-- The inputs of the current cycle: the first of the list, quiet if the list is empty
(spec/10_state.md R23, log entry 1). -/
def State.input (s : State) : Inputs := s.inputs.headD Inputs.quiet

/-- LEDCORE has no fault: "No operation raises, records or signals an error" (spec/60_exceptions.md
R230), and no behaviour is treated as one (spec/93_implementation_defined.md). So the type has no
constructor, nobody raises one, and that a step never faults is a matter of type: safe. -/
inductive Fault : Type
deriving DecidableEq, Repr

/-- The reasons an operation is refused. Every operation of the table has its meaning, so no step
answers with one. -/
inductive Refusal where
  /-- Raised by an arm of `exec` whose operation has no meaning yet; no arm is such: safe. -/
  | notModelled (mnemonic : String)
deriving DecidableEq, Repr

end Sys2Proof.Machine
end

