-- ==== Sys2Proof/Machine/Encoder.lean ====
section
/-!
DEFINITION. The waveform encoder: combinational functions from an entry to the bits on the line
(spec/43_waveform_encoder.md R180 to R187).
-/

namespace Sys2Proof.Machine

/-- An RGB colour (spec/00_scope.md R13). -/
structure Rgb where
  r : Byte
  g : Byte
  b : Byte
deriving DecidableEq, Repr

/-- `BLACK = (0, 0, 0)` (R13). -/
def black : Rgb := ⟨0#8, 0#8, 0#8⟩

/-- The colour an entry stores. -/
def Entry.colour (e : Entry) : Rgb := ⟨e.r, e.g, e.b⟩

/-- Effective colour `eff(e, ph)`: On shows the stored colour, Blinking shows it in the on-phase,
and codes 0 and 3 show `BLACK` (R180). -/
def eff (e : Entry) (ph : Bool) : Rgb :=
  if e.ps = 1#2 then e.colour
  else if e.ps = 2#2 then (if ph then e.colour else black)
  else black

/-- `grb((r, g, b)) = {g, r, b}`, green in bits 23:16 (R181). -/
def grb (c : Rgb) : GrbWord := (c.g ++ c.r ++ c.b : BitVec (8 + 8 + 8))

/-- Bit expansion `enc` (R182). -/
def enc (bit : Bool) : Byte := if bit then Config.ONE else Config.ZERO

/-- Waveform byte `W(snap, p)`: preamble, data, post-pad (R183). -/
def waveByte (snap : Vector GrbWord 32) (p : Nat) : Byte :=
  if p < Config.PRE then 0x00#8
  else if h : p < Config.PRE + Config.N * 24 then
    enc ((snap[(p - Config.PRE) / 24]'(by simp only [Config.PRE, Config.N] at h ⊢; omega)).getLsbD
      (23 - (p - Config.PRE) % 24))
  else 0x00#8

/-- Line bit `L(snap, p, t) = W(snap, p)[7 - t]`: most significant bit first (R186, R67). -/
def lineBit (snap : Vector GrbWord 32) (p t : Nat) : Bool := (waveByte snap p).getLsbD (7 - t)

/-- The document's waveform buffer: the 1022 bytes `W(snap, 0..1021)` of a frame (R188;
spec/10_state.md R46). It is a value of the snapshot, not state. -/
def waveBuffer (snap : Vector GrbWord 32) : List Byte :=
  (List.range Config.FRAME_LEN).map (waveByte snap)

/-- `SNAP(T, ph)[k] = grb(eff(T[k], ph))` (R187). -/
def snapOf (T : Vector Entry 32) (ph : Bool) : Vector GrbWord 32 :=
  tabulate 32 fun k => grb (eff T[k] ph)

/-- The document's `render(table, blink_phase)`: the whole buffer, from the table and phase of one
instant (R187, R188). -/
def render (T : Vector Entry 32) (ph : Bool) : List Byte := waveBuffer (snapOf T ph)

end Sys2Proof.Machine
end

