-- ==== Sys2Proof/Machine/Flags.lean ====
section
/-!
DEFINITION. The conditions that select events and the one-bit flags the rules test
(spec/30_encoding.md R99, spec/10_state.md R43). Each is a function of the current state alone; the
condition `i.rst = 0` that they share stands in Machine/Cycle.lean.
-/

namespace Sys2Proof.Machine

/-- `any_req`: a render request is pending (spec/44_frame_transmitter.md R200). -/
def State.anyReq (s : State) : Bool := s.decState == .wait || s.reqBlink || s.reqExt

/-- `launch`, less the reset condition (R202). -/
def State.launchDue (s : State) : Bool := !s.txBusy && s.decState != .run && s.anyReq

/-- `tick` (spec/42_blink_timer.md R170). -/
def State.tickDue (s : State) : Bool := s.blinkCnt == s.params.blinkDiv - 1

/-- `apply_clr`: a pending clear meets an IDLE decoder (spec/41_table_port.md R156, R157). -/
def State.clearDue (s : State) : Bool := s.clrPend && s.decState == .idle

/-- The current cycle is the last of the frame's last line bit (R99, R207). -/
def State.doneDue (s : State) : Bool :=
  s.txBusy && s.cellCnt == s.params.cellDiv - 1 && s.txBit == 7 && s.txByte == 1021

end Sys2Proof.Machine
end

