-- ==== Sys2Proof/WellFormed.lean ====
section
/-!
DEFINITION. Which terms of `Instr` the spec can spell.
The field widths are in the types, so one check is left: `SET.OFF` of LED 0 with header bit 7 clear
would be header 0x00, which is `NOP` (spec/30_encoding.md R96, R103).
-/

namespace Sys2Proof

/-- The instruction has a spelling of its own. -/
def Instr.wellFormed : Instr → Bool
  | .nop _ _ _ => true
  | .setOff x idx _ _ _ => x || idx != 0#5
  | .setOn _ _ _ _ _ => true
  | .setBlink _ _ _ _ _ => true
  | .setPs3 _ _ _ _ _ => true
  | .rst => true
  | .report _ => true
  | .clr => true
  | .render => true
  | .get _ => true
  | .tick => true
  | .launch => true
  | .shift => true
  | .done => true

/-- `Instr.wellFormed` as a proposition. -/
abbrev Instr.WellFormed (i : Instr) : Prop := i.wellFormed = true

/-- The instruction is one of the five command-group operations (spec/30_encoding.md R90). -/
def Instr.isGroup : Instr → Bool
  | .nop _ _ _ => true
  | .setOff _ _ _ _ _ => true
  | .setOn _ _ _ _ _ => true
  | .setBlink _ _ _ _ _ => true
  | .setPs3 _ _ _ _ _ => true
  | .rst => false
  | .report _ => false
  | .clr => false
  | .render => false
  | .get _ => false
  | .tick => false
  | .launch => false
  | .shift => false
  | .done => false

end Sys2Proof
end

