-- ==== Sys2Proof/Decode.lean ====
section
/-!
DEFINITION. Decoding of command groups and of one cycle's input ports, and the encoder, from
spec/30_encoding.md R91 to R100 and spec/20_memory.md R61, R64.
-/

namespace Sys2Proof

/-! ### The header byte (R92, R93) -/

/-- `idx = h[4:0]` (R93). -/
def headerIdx (h : Byte) : LedIdx := h.extractLsb' 0 5

/-- `ps = h[6:5]` (R93). -/
def headerPs (h : Byte) : PsCode := h.extractLsb' 5 2

/-- `x = h[7]`, reserved (R92, R97). -/
def headerX (h : Byte) : Bool := h.getLsbD 7

/-- The header byte with the three fields, `x` most significant (R92). -/
def mkHeader (x : Bool) (ps : PsCode) (idx : LedIdx) : Byte :=
  (BitVec.ofBool x ++ ps ++ idx : BitVec (1 + 2 + 5))

/-! ### Command groups -/

/-- The operation a group selects: the zero test reads the whole header, then `ps` chooses
(R94, R95, R96). Total: no header value is illegal (R97). -/
def decodeGroup (w : GroupWord) : Instr :=
  if w.header = 0x00#8 then .nop w.r w.g w.b
  else if headerPs w.header = 0#2 then .setOff (headerX w.header) (headerIdx w.header) w.r w.g w.b
  else if headerPs w.header = 1#2 then .setOn (headerX w.header) (headerIdx w.header) w.r w.g w.b
  else if headerPs w.header = 2#2 then .setBlink (headerX w.header) (headerIdx w.header) w.r w.g w.b
  else .setPs3 (headerX w.header) (headerIdx w.header) w.r w.g w.b

/-- Why a byte string is no group. -/
inductive Reject where
  /-- Fewer than 4 bytes: "every group is exactly 4 bytes" (R100). -/
  | shortGroup
deriving DecidableEq, Repr

/-- Decodes the group at the head of a byte string, with the bytes left over; a string of fewer
than 4 bytes is rejected by name (R91, R100). -/
def decodeBytes : List Byte → Except Reject (Instr × List Byte)
  | h :: r :: g :: b :: rest => .ok (decodeGroup ⟨h, r, g, b⟩, rest)
  | _ => .error .shortGroup

/-- Bytes 4i..4i+3 of a report (R61, R91). -/
def groupAt (buf : Vector Byte 64) (i : Fin 16) : GroupWord :=
  { header := buf[4 * i.val]
    r := buf[4 * i.val + 1]
    g := buf[4 * i.val + 2]
    b := buf[4 * i.val + 3] }

/-- The report with group `i` replaced by `w`. -/
def setGroupAt (buf : Vector Byte 64) (i : Fin 16) (w : GroupWord) : Vector Byte 64 :=
  (((buf.set (4 * i.val) w.header).set (4 * i.val + 1) w.r).set (4 * i.val + 2) w.g).set
    (4 * i.val + 3) w.b

/-! ### The packing of the report port (R64) -/

/-- Byte `k` of the 512-bit port value: `rpt_data[8k+7:8k]` (R64). -/
def reportByte (d : BitVec 512) (k : Nat) : Byte := d.extractLsb' (8 * k) 8

/-- The 64 bytes on the 512-bit port (R64). -/
def unpackReport (d : BitVec 512) : Vector Byte 64 := tabulate 64 fun k => reportByte d k.val

/-- The number whose base-256 digits are the bytes, the first byte least significant. -/
def bytesValue : List Byte → Nat
  | [] => 0
  | x :: xs => x.toNat + 256 * bytesValue xs

/-- The 512-bit port value that carries the 64 bytes (R64). -/
def packReport (v : Vector Byte 64) : BitVec 512 := BitVec.ofNat 512 (bytesValue v.toList)

/-! ### The input ports of a cycle (R98) -/

/-- The port operations the inputs of a cycle select, whatever the state (R98): `GET` in every
cycle; `RST` overrides the other three; any combination of those three otherwise.
`REPORT` is selected only if the decoder is IDLE too; that state condition stands in
Machine/Cycle.lean. -/
def decodePorts (i : Inputs) : List Instr :=
  .get i.rdIdx ::
    if i.rst then [.rst]
    else (if i.rptValid then [.report i.rptData] else []) ++
      (if i.clr then [.clr] else []) ++ (if i.renderReq then [.render] else [])

/-- The one operation a port vector stands for in the opcode table, tested in the table's order:
`RST`, `REPORT`, `CLR`, `RENDER`, else `GET`. -/
def decodePortRow (i : Inputs) : Instr :=
  if i.rst then .rst
  else if i.rptValid then .report i.rptData
  else if i.clr then .clr
  else if i.renderReq then .render
  else .get i.rdIdx

/-! ### Encodings as one type -/

/-- What carries an encoding: a command group or one cycle's input ports (R90).
Internal events have none (R99). -/
inductive Encoded where
  | group (w : GroupWord)
  | ports (i : Inputs)
deriving DecidableEq, Repr

/-- The operations an encoding selects (R96, R98). -/
def decode : Encoded → List Instr
  | .group w => [decodeGroup w]
  | .ports i => decodePorts i

/-- The group bytes of a command-group operation (R91, R92). -/
def encodeGroup : Instr → Option GroupWord
  | .nop r g b => some ⟨0x00#8, r, g, b⟩
  | .setOff x idx r g b => some ⟨mkHeader x 0#2 idx, r, g, b⟩
  | .setOn x idx r g b => some ⟨mkHeader x 1#2 idx, r, g, b⟩
  | .setBlink x idx r g b => some ⟨mkHeader x 2#2 idx, r, g, b⟩
  | .setPs3 x idx r g b => some ⟨mkHeader x 3#2 idx, r, g, b⟩
  | .rst => none
  | .report _ => none
  | .clr => none
  | .render => none
  | .get _ => none
  | .tick => none
  | .launch => none
  | .shift => none
  | .done => none

/-- The input ports of a port operation alone, every other strobe 0 (R98, R101), and 0 on `rd_idx` and
`rpt_data` where the operation does not use them (log entry 20). -/
def encodePorts : Instr → Option Inputs
  | .rst => some { Inputs.quiet with rst := true }
  | .report data => some { Inputs.quiet with rptValid := true, rptData := data }
  | .clr => some { Inputs.quiet with clr := true }
  | .render => some { Inputs.quiet with renderReq := true }
  | .get idx => some { Inputs.quiet with rdIdx := idx }
  | .nop _ _ _ => none
  | .setOff _ _ _ _ _ => none
  | .setOn _ _ _ _ _ => none
  | .setBlink _ _ _ _ _ => none
  | .setPs3 _ _ _ _ _ => none
  | .tick => none
  | .launch => none
  | .shift => none
  | .done => none

/-- The encoding of an operation, `none` for an internal event (R90, R99). -/
def encode (i : Instr) : Option Encoded :=
  ((encodeGroup i).map Encoded.group).or ((encodePorts i).map Encoded.ports)

/-- The 4 bytes of a group in report order (R91). -/
def GroupWord.bytes (w : GroupWord) : List Byte := [w.header, w.r, w.g, w.b]

/-! ### Words numbered as spec/opcode_table.json numbers them (log entry 12) -/

/-- The inputs whose port vector `{rst, rpt_valid, clr, render_req}` is bits 3..0 of `w`, with
zeros on `rpt_data` and `rd_idx` (spec/opcode_table.json, "source_fields"). -/
def vectorInputs (w : Nat) : Inputs :=
  { Inputs.quiet with
    rst := w.testBit 3, rptValid := w.testBit 2, clr := w.testBit 1, renderReq := w.testBit 0 }

/-- The group whose byte `k` is bits 8k+7..8k of `w`, header first. -/
def tableGroup (w : Nat) : GroupWord :=
  { header := BitVec.ofNat 8 w
    r := BitVec.ofNat 8 (w / 256)
    g := BitVec.ofNat 8 (w / 65536)
    b := BitVec.ofNat 8 (w / 16777216) }

/-- How a table word is read. The table gives a group row 32 bits and a port row 4 bits (one byte),
and a group row's fixed bits lie in its first byte. A word of at most 8 bits is a port vector if it
is 1..15 (or if no bits are given at all), and a group header otherwise.
DESIGN CHOICE (log entry 12): it decides only what a bare table word means, not the machine. -/
def tableWord (nbits w : Nat) : Encoded :=
  if nbits = 0 ∨ nbits ≤ 8 ∧ 1 ≤ w ∧ w ≤ 15 then .ports (vectorInputs w) else .group (tableGroup w)

/-- The operation the decoder reads from a table word. -/
def decodeTableWord (nbits w : Nat) : Option Instr :=
  match tableWord nbits w with
  | .group g => some (decodeGroup g)
  | .ports i => some (decodePortRow i)

end Sys2Proof
end

