-- ==== Sys2Proof/Machine/Operands.lean ====
section
/-!
DEFINITION. Where operands come from: the group multiplexer of the captured report and the table
read port.
-/

namespace Sys2Proof.Machine

/-- The group multiplexer: the group under execution is bytes `4·dec_grp .. 4·dec_grp+3` of
`rpt_buf` (spec/40_command_decoder.md R122). -/
def State.muxGroup (s : State) : GroupWord := groupAt s.rptBuf s.decGrp

/-- The command-group operation under execution (R122, spec/30_encoding.md R96). -/
def State.groupInstr (s : State) : Instr := decodeGroup s.muxGroup

/-- The read port: entry `i` of the table, `OFF_ENTRY` for an index past its end
(spec/41_table_port.md R154). -/
def readEntry (T : Vector Entry 32) (i : Nat) : Entry :=
  if h : i < Config.N then T[i] else offEntry

end Sys2Proof.Machine
end

