-- ==== Sys2Proof/Machine/Ops.lean ====
section
/-!
DEFINITION. The named operations over the registers, each a whole register update of one rule.
LEDCORE has no memory and takes no exception (spec/00_scope.md R12, spec/60_exceptions.md R230,
R235), so there is no memory operation and no exception entry here.
-/

namespace Sys2Proof.Machine

/-! ### LED state table -/

/-- `TableWrite(idx, e)`: the write port; an index past the end writes nothing
(spec/41_table_port.md R150, R151). -/
def State.tableWrite (s : State) (idx : Nat) (e : Entry) : State :=
  if h : idx < Config.N then { s with T := s.T.set idx e } else s

/-- The application of a pending clear: every entry `OFF_ENTRY`, the request dropped (R156, R157). -/
def State.applyClear (s : State) : State :=
  { s with T := Vector.replicate 32 offEntry, clrPend := false }

/-- The `clr` strobe's set of `clr_pend` (R156). -/
def State.latchClear (s : State) : State := { s with clrPend := true }

/-- The read port's data for index `idx`, as the host sees it in this cycle (R154). -/
def State.readPort (s : State) (idx : Byte) : State :=
  { s with rdPort := readEntry s.T idx.toNat }

/-! ### Command decoder -/

/-- Acceptance of a report: 64 bytes captured, group 0 next, RUN (spec/40_command_decoder.md R121). -/
def State.captureReport (s : State) (data : Vector Byte 64) : State :=
  { s with rptBuf := data, decGrp := 0, decState := .run }

/-- Microstate sequencing of a RUN cycle: the next group, or WAIT after group 15, which leaves
`dec_grp` at 15 (R123). -/
def State.advanceGroup (s : State) : State :=
  if h : s.decGrp.val < 15 then { s with decGrp := ⟨s.decGrp.val + 1, by omega⟩ }
  else { s with decState := .wait }

/-- The end of the one-cycle acknowledgement pulse (R131, R33). -/
def State.dropAck (s : State) : State := { s with ackPulse := false }

/-! ### Blink timer -/

/-- A cycle without a tick: the divider counts (spec/42_blink_timer.md R171). At its last value,
BLINK_DIV-1, there is nothing to count: that cycle ticks (R170), and the tick restarts the divider. -/
def State.countBlink (s : State) : State :=
  if h : s.blinkCnt + 1 < s.params.blinkDiv then
    { s with blinkCnt := s.blinkCnt + 1, blinkCnt_lt := h }
  else s

/-- A tick: the divider restarts, the phase toggles, a render is requested (R171, R172, R173). -/
def State.blinkTick (s : State) : State :=
  { s with
    blinkCnt := 0, blinkCnt_lt := s.params.blinkDiv_pos
    phase := !s.phase, reqBlink := true }

/-! ### Frame transmitter -/

/-- The `render_req` strobe's set of `req_ext` (spec/44_frame_transmitter.md R201). -/
def State.latchRender (s : State) : State := { s with reqExt := true }

/-- A launch: the snapshot is captured and the transmitter started (R204, R205); every pending
request is retired (R203, R173, R201); a decoder in WAIT goes IDLE and is acknowledged
(spec/40_command_decoder.md R131, R132). -/
def State.startFrame (s : State) : State :=
  { s with
    snap := snapOf s.T s.phase
    txBusy := true, txByte := 0, txBit := 0
    cellCnt := 0, cellCnt_lt := s.params.cellDiv_pos
    reqBlink := false, reqExt := false
    ackPulse := s.decState == .wait
    decState := if s.decState = .wait then .idle else s.decState }

/-- Frame completion: the transmitter is idle and its counters are 0 (R207). -/
def State.finishFrame (s : State) : State :=
  { s with
    txBusy := false, txByte := 0, txBit := 0
    cellCnt := 0, cellCnt_lt := s.params.cellDiv_pos }

/-- The serializer's advance in a busy cycle; the last cycle of the last line bit completes the
frame (R206). -/
def State.shiftLine (s : State) : State :=
  if hcell : s.cellCnt < s.params.cellDiv - 1 then
    { s with cellCnt := s.cellCnt + 1, cellCnt_lt := by omega }
  else if hbit : s.txBit.val < 7 then
    { s with
      cellCnt := 0, cellCnt_lt := s.params.cellDiv_pos
      txBit := ⟨s.txBit.val + 1, by omega⟩ }
  else if hbyte : s.txByte.val < Config.FRAME_LEN - 1 then
    { s with
      cellCnt := 0, cellCnt_lt := s.params.cellDiv_pos
      txBit := 0
      txByte := ⟨s.txByte.val + 1, by simp only [Config.FRAME_LEN] at hbyte; omega⟩ }
  else s.finishFrame

/-! ### Reset and the host's inputs -/

/-- Every register at its reset value (spec/70_reset_and_hazards.md R251). The parameters, the
host's inputs and the read data of the cycle are no registers of the block and stay. -/
def State.resetRegisters (s : State) : State :=
  { State.resetOf s.params with inputs := s.inputs, rdPort := s.rdPort }

/-- The cycle is over: its inputs are consumed (spec/10_state.md R20). -/
def State.popInput (s : State) : State := { s with inputs := s.inputs.tail }

end Sys2Proof.Machine
end

