-- ==== Sys2Proof/Machine/Event.lean ====
section
/-!
DEFINITION. The four internal events (spec/30_encoding.md R99). Each is selected by the state; where
its condition does not hold it does not happen and every register holds (spec/10_state.md R21; log
entry 6).
-/

namespace Sys2Proof.Machine

/-- `TICK` (spec/42_blink_timer.md R170 to R173). -/
def execTick (s : State) : Host.Outcome State Fault Refusal :=
  if s.tickDue then .next s.blinkTick else .next s

/-- `LAUNCH` (spec/44_frame_transmitter.md R202 to R205, spec/40_command_decoder.md R131, R132). -/
def execLaunch (s : State) : Host.Outcome State Fault Refusal :=
  if s.launchDue then .next s.startFrame else .next s

/-- `SHIFT`; in the last cycle of the last line bit its rule goes on to `DONE`
(spec/44_frame_transmitter.md R206; log entry 7). -/
def execShift (s : State) : Host.Outcome State Fault Refusal :=
  if s.txBusy then .next s.shiftLine else .next s

/-- `DONE` (spec/44_frame_transmitter.md R207). -/
def execDone (s : State) : Host.Outcome State Fault Refusal :=
  if s.doneDue then .next s.finishFrame else .next s

end Sys2Proof.Machine
end

