-- ==== Sys2Proof/Machine/Group.lean ====
section
/-!
DEFINITION. The five command-group operations (spec/40_command_decoder.md R124 to R128).
"Every group operation executes only in a cycle with … s.dec_state == RUN": in that cycle it acts on
the table and the microstate moves on (R123). Outside RUN it is not selected and every register
holds (spec/10_state.md R21); log entries 5 and 6.
-/

namespace Sys2Proof.Machine

/-- One RUN cycle of a group that stores entry `e` at `idx`. -/
def storeGroup (idx : LedIdx) (e : Entry) (s : State) : Host.Outcome State Fault Refusal :=
  if s.decState = .run then .next (s.tableWrite idx.toNat e).advanceGroup else .next s

/-- `NOP`: no table write; the colour bytes are ignored (R124). -/
def execNop (_r _g _b : Byte) (s : State) : Host.Outcome State Fault Refusal :=
  if s.decState = .run then .next s.advanceGroup else .next s

/-- `SET.OFF`: `TableWrite(idx, {r, g, b, ps=0})`; header bit 7 is ignored (R125, R97). -/
def execSetOff (_x : Bool) (idx : LedIdx) (r g b : Byte) (s : State) :
    Host.Outcome State Fault Refusal := storeGroup idx ⟨r, g, b, 0#2⟩ s

/-- `SET.ON`: `TableWrite(idx, {r, g, b, ps=1})` (R126). -/
def execSetOn (_x : Bool) (idx : LedIdx) (r g b : Byte) (s : State) :
    Host.Outcome State Fault Refusal := storeGroup idx ⟨r, g, b, 1#2⟩ s

/-- `SET.BLINK`: `TableWrite(idx, {r, g, b, ps=2})` (R127). -/
def execSetBlink (_x : Bool) (idx : LedIdx) (r g b : Byte) (s : State) :
    Host.Outcome State Fault Refusal := storeGroup idx ⟨r, g, b, 2#2⟩ s

/-- `SET.PS3`: `TableWrite(idx, {r, g, b, ps=3})`; the undefined code is stored as it is (R128). -/
def execSetPs3 (_x : Bool) (idx : LedIdx) (r g b : Byte) (s : State) :
    Host.Outcome State Fault Refusal := storeGroup idx ⟨r, g, b, 3#2⟩ s

end Sys2Proof.Machine
end

