-- ==== Sys2Proof/Machine/Port.lean ====
section
/-!
DEFINITION. The five port operations (spec/30_encoding.md R98).
-/

namespace Sys2Proof.Machine

/-- `RST`: every register takes its reset value (spec/70_reset_and_hazards.md R251). -/
def execRst (s : State) : Host.Outcome State Fault Refusal := .next s.resetRegisters

/-- `REPORT`: an IDLE decoder takes the report; offered at any other time it is not taken and no
register changes (spec/40_command_decoder.md R121). -/
def execReport (data : Vector Byte 64) (s : State) : Host.Outcome State Fault Refusal :=
  if s.decState = .idle then .next (s.captureReport data) else .next s

/-- `CLR`: the clear request is latched; the clear itself is applied when the decoder is IDLE, by
`State.background` in Machine/Cycle.lean (spec/41_table_port.md R156, R157; log entry 8). -/
def execClr (s : State) : Host.Outcome State Fault Refusal := .next s.latchClear

/-- `RENDER`: the external render request is latched (spec/44_frame_transmitter.md R201). -/
def execRender (s : State) : Host.Outcome State Fault Refusal := .next s.latchRender

/-- `GET`: the read port carries entry `idx`; no register of the block changes
(spec/41_table_port.md R154, spec/20_memory.md R73; log entry 3). -/
def execGet (idx : Byte) (s : State) : Host.Outcome State Fault Refusal := .next (s.readPort idx)

end Sys2Proof.Machine
end

