-- ==== Sys2Proof/Machine/Dispatch.lean ====
section
/-!
DEFINITION. The meaning of each operation of spec/opcode_table.json, one arm per constructor.
-/

namespace Sys2Proof.Machine

/-- What one operation does to the state. -/
def exec (i : Instr) (s : State) : Host.Outcome State Fault Refusal :=
  match i with
  | .nop r g b => Sys2Proof.Machine.execNop r g b s
  | .setOff x idx r g b => Sys2Proof.Machine.execSetOff x idx r g b s
  | .setOn x idx r g b => Sys2Proof.Machine.execSetOn x idx r g b s
  | .setBlink x idx r g b => Sys2Proof.Machine.execSetBlink x idx r g b s
  | .setPs3 x idx r g b => Sys2Proof.Machine.execSetPs3 x idx r g b s
  | .rst => Sys2Proof.Machine.execRst s
  | .report data => Sys2Proof.Machine.execReport data s
  | .clr => Sys2Proof.Machine.execClr s
  | .render => Sys2Proof.Machine.execRender s
  | .get idx => Sys2Proof.Machine.execGet idx s
  | .tick => Sys2Proof.Machine.execTick s
  | .launch => Sys2Proof.Machine.execLaunch s
  | .shift => Sys2Proof.Machine.execShift s
  | .done => Sys2Proof.Machine.execDone s

end Sys2Proof.Machine
end

