-- ==== Sys2Proof/Machine/Cycle.lean ====
section
/-!
DEFINITION. One clock cycle: which operations it selects (spec/30_encoding.md R98, R99) and how they
act together at its edge (spec/10_state.md R21).

All selections are made from the state and inputs before the edge. The selected operations then run
through `exec` in an order in which each still reads pre-edge values and every set comes after the
clear it wins over, so that the run has the effect of the spec's simultaneous rules; Machine/Edge.lean
states those rules register by register (log entry 4).
-/

namespace Sys2Proof.Machine

/-- Goes on with the next state, or stops with the reason. -/
def andThen (o : Host.Outcome State Fault Refusal)
    (k : State → Host.Outcome State Fault Refusal) : Host.Outcome State Fault Refusal :=
  match o with
  | .next s => k s
  | .fault r => .fault r
  | .refused r => .refused r

/-- Runs operations in list order, each through `exec`. -/
def execAll : List Instr → State → Host.Outcome State Fault Refusal
  | [], s => .next s
  | i :: rest, s => andThen (exec i s) (execAll rest)

/-- The selected operations that read the table or the phase before the edge changes them: `GET`,
and without reset `SHIFT`, `DONE` and `LAUNCH`. -/
def State.readers (s : State) : List Instr :=
  .get s.input.rdIdx ::
    if s.input.rst then []
    else (if s.txBusy then [.shift] else []) ++ (if s.doneDue then [.done] else []) ++
      (if s.launchDue then [.launch] else [])

/-- The other selected operations: `RST` alone, or the group under execution, `REPORT`, `TICK`,
`CLR` and `RENDER`. -/
def State.writers (s : State) : List Instr :=
  if s.input.rst then [.rst]
  else (if s.decState = .run then [s.groupInstr] else []) ++
    (if s.input.rptValid && s.decState == .idle then [.report s.input.rptData] else []) ++
    (if s.tickDue then [.tick] else []) ++
    (if s.input.clr then [.clr] else []) ++
    (if s.input.renderReq then [.render] else [])

/-- Every operation the cycle selects (R98, R99). -/
def State.selected (s : State) : List Instr := s.readers ++ s.writers

/-- What happens at an edge without an operation of its own, applied to `t` as the cycle that starts
in `s` selects it: a due clear is applied (R157) and the divider counts unless it ticks (R171). -/
def State.background (s t : State) : State :=
  if s.input.rst then t
  else
    let u := if s.clearDue then t.applyClear else t
    if s.tickDue then u else u.countBlink

/-- One clock cycle. The acknowledgement pulse of the last cycle ends first, so that only a launch
of this cycle sets it again (R131); last, the cycle's inputs are consumed. -/
def cycle (s : State) : Host.Outcome State Fault Refusal :=
  andThen (execAll s.readers s.dropAck) fun t =>
    andThen (execAll s.writers (s.background t)) fun u => .next u.popInput

end Sys2Proof.Machine
end

