-- ==== Sys2Proof/Machine/Fetch.lean ====
section
/-!
DEFINITION. Placing one operation where the next step takes it from. LEDCORE fetches nothing
(spec/10_state.md R42): a port operation comes on the input ports of the cycle, a command group from
the captured report at `dec_grp` in a RUN cycle (spec/30_encoding.md R98, R99; log entry 13).
-/

namespace Sys2Proof.Machine

/-- The inputs of the current cycle replaced by `i`. -/
def State.withInput (s : State) (i : Inputs) : State := { s with inputs := i :: s.inputs.tail }

/-- The state whose next step runs the encoded operation: a group is placed under the multiplexer of
a RUN cycle with quiet inputs; a port operation is driven on the inputs, and for `REPORT` the decoder
is IDLE, as its selection needs. -/
def State.place (s : State) : Encoded → State
  | .group w =>
    { s.withInput Inputs.quiet with decState := .run, rptBuf := setGroupAt s.rptBuf s.decGrp w }
  | .ports i =>
    { s.withInput i with decState := if i.rptValid && !i.rst then .idle else s.decState }

end Sys2Proof.Machine
end

