-- ==== Sys2Proof/Machine/Step.lean ====
section
/-!
DEFINITION. The step of the machine: one clock cycle (spec/10_state.md R20).
-/

namespace Sys2Proof.Machine

/-- One step is one clock cycle, with the inputs at the head of `State.inputs`. -/
def step (s : State) : Host.Outcome State Fault Refusal := cycle s

/-- `s` with the operation of a table word where the next step takes it from (log entries 12, 13). -/
def State.withFetchWord (s : State) (nbits w : Nat) : State := s.place (tableWord nbits w)

end Sys2Proof.Machine
end

