-- ==== Sys2Proof/Machine/Edge.lean ====
section
/-!
DEFINITION. The clock edge as the spec writes it: each register's next value from `s` and `i` alone
(spec/10_state.md R20 to R22, spec/00_scope.md R12), independent of `exec` and of the order in
Machine/Cycle.lean. It is the clear form of the step, which Machine/Step.lean runs through `exec`.
-/

namespace Sys2Proof.Machine

/-- `launch` with its reset condition (spec/44_frame_transmitter.md R202). -/
def launchAt (s : State) (i : Inputs) : Bool := !i.rst && s.launchDue

/-- The last cycle of a line bit: the serializer's `else` branch (R206). -/
def cellEnds (s : State) : Bool := s.txBusy && !decide (s.cellCnt < s.params.cellDiv - 1)

/-- The last cycle of a waveform byte (R206). -/
def byteEnds (s : State) : Bool := cellEnds s && !decide (s.txBit.val < 7)

/-- The last cycle of a frame (R206, R207). -/
def frameEnds (s : State) : Bool := byteEnds s && !decide (s.txByte.val < 1021)

/-- The group under execution writes the table: a RUN cycle whose header is not 0x00 (R124 to R128). -/
def groupWrites (s : State) : Bool := s.decState == .run && s.muxGroup.header != 0x00#8

/-- The entry the group under execution stores (R125 to R128): its colour bytes and `header[6:5]`. -/
def groupEntry (s : State) : Entry :=
  ⟨s.muxGroup.r, s.muxGroup.g, s.muxGroup.b, headerPs s.muxGroup.header⟩

/-- `T'[k]`: a group's write, a clear, or hold (R150, R157). -/
def nextEntry (s : State) (k : Fin 32) : Entry :=
  if groupWrites s ∧ (headerIdx s.muxGroup.header).toNat = k.val then groupEntry s
  else if s.clearDue then offEntry
  else s.T[k]

/-- `blink_cnt'` (spec/42_blink_timer.md R171). -/
def nextBlinkCnt (s : State) : Nat := if s.tickDue then 0 else s.blinkCnt + 1

/-- `cell_cnt'` (R205, R206, R207). -/
def nextCellCnt (s : State) (i : Inputs) : Nat :=
  if launchAt s i || cellEnds s then 0 else if s.txBusy then s.cellCnt + 1 else s.cellCnt

/-- The divider stays in its range: it restarts at the last value (R170, R171). -/
theorem nextBlinkCnt_lt (s : State) : nextBlinkCnt s < s.params.blinkDiv := by
  have hlt := s.blinkCnt_lt
  unfold nextBlinkCnt State.tickDue
  split
  · exact s.params.blinkDiv_pos
  · next h => simp only [beq_iff_eq] at h; omega

/-- The line-bit counter stays in its range: the line bit ends at the last value (R206). -/
theorem nextCellCnt_lt (s : State) (i : Inputs) : nextCellCnt s i < s.params.cellDiv := by
  have hlt := s.cellCnt_lt
  unfold nextCellCnt cellEnds
  split
  · exact s.params.cellDiv_pos
  · next h =>
    split
    · next hb => simp [hb] at h; omega
    · exact hlt

/-- The state after an edge with reset (R251). -/
def resetEdge (s : State) (i : Inputs) : State :=
  { State.resetOf s.params with
    inputs := s.inputs.tail
    rdPort := readEntry s.T i.rdIdx.toNat }

/-- The state after an edge without reset: every register by its rule (R22). -/
def ruleEdge (s : State) (i : Inputs) : State :=
  { params := s.params
    inputs := s.inputs.tail
    rdPort := readEntry s.T i.rdIdx.toNat
    T := tabulate 32 (nextEntry s)
    phase := if s.tickDue then !s.phase else s.phase
    blinkCnt := nextBlinkCnt s, blinkCnt_lt := nextBlinkCnt_lt s
    reqBlink := s.tickDue || (s.reqBlink && !launchAt s i)
    decState :=
      match s.decState with
      | .idle => if i.rptValid then .run else .idle
      | .run => if s.decGrp = 15 then .wait else .run
      | .wait => if launchAt s i then .idle else .wait
    decGrp :=
      match s.decState with
      | .idle => if i.rptValid then 0 else s.decGrp
      | .run => if s.decGrp = 15 then s.decGrp else s.decGrp + 1
      | .wait => s.decGrp
    rptBuf := if s.decState = .idle ∧ i.rptValid then i.rptData else s.rptBuf
    ackPulse := launchAt s i && s.decState == .wait
    clrPend := i.clr || (s.clrPend && !s.clearDue)
    reqExt := i.renderReq || (s.reqExt && !launchAt s i)
    snap := if launchAt s i then snapOf s.T s.phase else s.snap
    txBusy := launchAt s i || (s.txBusy && !frameEnds s)
    txByte :=
      if launchAt s i || frameEnds s then 0
      else if byteEnds s then s.txByte + 1 else s.txByte
    txBit :=
      if launchAt s i || byteEnds s then 0
      else if cellEnds s then s.txBit + 1 else s.txBit
    cellCnt := nextCellCnt s i, cellCnt_lt := nextCellCnt_lt s i }

/-- The state after the edge of a cycle with inputs `i` (R21). -/
def edge (s : State) (i : Inputs) : State := if i.rst then resetEdge s i else ruleEdge s i

end Sys2Proof.Machine
end

