-- ==== Sys2Proof/Machine/Outputs.lean ====
section
/-!
DEFINITION. The output ports (spec/10_state.md R24): functions of the current state, and for the
read data of the current `rd_idx` too (R20).
-/

namespace Sys2Proof.Machine

/-- The output ports of one cycle (R24). -/
structure Outputs where
  rptReady : Bool
  ackValid : Bool
  ackData : Byte
  rdR : Byte
  rdG : Byte
  rdB : Byte
  rdPs : PsCode
  ledOut : Bool
  txBusy : Bool
  blinkPhase : Bool
deriving DecidableEq, Repr

/-- The serial line: the frame's line bit while a frame is in flight, else low
(spec/44_frame_transmitter.md R209). -/
def State.ledOut (s : State) : Bool :=
  if s.txBusy then lineBit s.snap s.txByte.val s.txBit.val else false

/-- The output function `out : State → Inputs → Outputs` (R20, R24). -/
def out (s : State) (i : Inputs) : Outputs :=
  let e := readEntry s.T i.rdIdx.toNat
  { rptReady := s.decState == .idle
    ackValid := s.ackPulse
    ackData := Config.ACK_VALUE
    rdR := e.r, rdG := e.g, rdB := e.b, rdPs := e.ps
    ledOut := s.ledOut
    txBusy := s.txBusy
    blinkPhase := s.phase }

/-- The outputs of the current cycle, with the inputs the host drives in it. -/
def State.outputs (s : State) : Outputs := out s s.input

end Sys2Proof.Machine
end

