-- ==== Sys2Proof/Machine/Script.lean ====
section
/-!
DEFINITION. The script notation of spec/30_encoding.md R101 to R103: command-group forms and their
assembly, the report directive, and the host's script lines as inputs.
-/

namespace Sys2Proof.Machine

/-- A command-group form (R101) or pseudo form (R102), with its numbers as written. -/
inductive GroupForm where
  | nop
  | setOff (idx r g b : Nat)
  | setOn (idx r g b : Nat)
  | setBlink (idx r g b : Nat)
  | setPs3 (idx r g b : Nat)
  /-- `SET.OFF.X`: the same with header bit 7 set; so the next three. -/
  | setOffX (idx r g b : Nat)
  | setOnX (idx r g b : Nat)
  | setBlinkX (idx r g b : Nat)
  | setPs3X (idx r g b : Nat)
  /-- `GROUP h, r, g, b`: a raw group, byte for byte. -/
  | raw (h r g b : Nat)
  /-- The pseudo form `OFF idx`. -/
  | off (idx : Nat)
  /-- The pseudo form `ON idx, r, g, b`. -/
  | on (idx r g b : Nat)
  /-- The pseudo form `BLINK idx, r, g, b`. -/
  | blink (idx r g b : Nat)
deriving DecidableEq, Repr

/-- A `SET` group with header fields `x`, `ps`, `idx`; an index outside 0..31 or a colour outside
0..255 is refused (R101, R103). -/
def assembleSet (x : Bool) (ps : PsCode) (idx r g b : Nat) : Option GroupWord :=
  if idx < 32 ∧ r < 256 ∧ g < 256 ∧ b < 256 then
    some ⟨mkHeader x ps (BitVec.ofNat 5 idx), BitVec.ofNat 8 r, BitVec.ofNat 8 g, BitVec.ofNat 8 b⟩
  else none

/-- The 4 bytes of a form. `SET.OFF 0` always expands to `SET.OFF.X 0`, never to header 0x00
(R102, R103). -/
def GroupForm.assemble : GroupForm → Option GroupWord
  | .nop => some ⟨0x00#8, 0x00#8, 0x00#8, 0x00#8⟩
  | .setOff idx r g b => assembleSet (idx == 0) 0#2 idx r g b
  | .setOn idx r g b => assembleSet false 1#2 idx r g b
  | .setBlink idx r g b => assembleSet false 2#2 idx r g b
  | .setPs3 idx r g b => assembleSet false 3#2 idx r g b
  | .setOffX idx r g b => assembleSet true 0#2 idx r g b
  | .setOnX idx r g b => assembleSet true 1#2 idx r g b
  | .setBlinkX idx r g b => assembleSet true 2#2 idx r g b
  | .setPs3X idx r g b => assembleSet true 3#2 idx r g b
  | .raw h r g b =>
    if h < 256 ∧ r < 256 ∧ g < 256 ∧ b < 256 then
      some ⟨BitVec.ofNat 8 h, BitVec.ofNat 8 r, BitVec.ofNat 8 g, BitVec.ofNat 8 b⟩
    else none
  | .off idx => assembleSet (idx == 0) 0#2 idx 0 0 0
  | .on idx r g b => assembleSet false 1#2 idx r g b
  | .blink idx r g b => assembleSet false 2#2 idx r g b

/-- The bytes of the forms in order, `none` if one is refused. -/
def assembleForms : List GroupForm → Option (List Byte)
  | [] => some []
  | f :: fs =>
    match f.assemble, assembleForms fs with
    | some w, some bs => some (w.bytes ++ bs)
    | _, _ => none

/-- The report directive: 1 to 16 groups, group k in bytes 4k..4k+3, missing groups `NOP` with zero
colour bytes (R101); no group and more than 16 are refused (R101, R103). -/
def assembleReport (fs : List GroupForm) : Option (Vector Byte 64) :=
  if 1 ≤ fs.length ∧ fs.length ≤ 16 then
    (assembleForms fs).map fun bs => tabulate 64 fun k => bs.getD k.val 0x00#8
  else none

/-- A host script line (R101). -/
inductive HostLine where
  | rst
  | report (forms : List GroupForm)
  | clr
  | render
  | get (idx : Nat)
  | wait (n : Nat)
deriving DecidableEq, Repr

/-- The inputs of a cycle that presents the line together with the inputs `i`: lines of one cycle
combine (R98, R101). `WAIT` presents nothing of its own; a `GET` index outside 0..255 does not fit the port and
is refused (log entry 17). -/
def HostLine.present : HostLine → Inputs → Option Inputs
  | .rst, i => some { i with rst := true }
  | .report fs, i => (assembleReport fs).map fun d => { i with rptValid := true, rptData := d }
  | .clr, i => some { i with clr := true }
  | .render, i => some { i with renderReq := true }
  | .get idx, i => if idx < 256 then some { i with rdIdx := BitVec.ofNat 8 idx } else none
  | .wait _, i => some i

/-- The inputs of one cycle that presents all the lines. What no line drives is as in `Inputs.quiet`:
without a `GET` line `rd_idx` is 0, without a `REPORT` line `rpt_data` is 0 (the model's choice, log
entry 20). Where two of them drive one port with
different data (two `GET` lines, two `REPORT` lines), the first of the list wins: the spec gives no
rule, and this is the model's choice (log entry 19). -/
def presentLines : List HostLine → Option Inputs
  | [] => some Inputs.quiet
  | l :: ls => (presentLines ls).bind l.present

/-- The cycles of a line presented alone: `WAIT n` is n quiet cycles, any other line one cycle
(a report's further cycles, while it is not taken, are `offerReport`'s). -/
def HostLine.cycles : HostLine → Option (List Inputs)
  | .wait n => some (List.replicate n Inputs.quiet)
  | l => (l.present Inputs.quiet).map fun i => [i]

/-- One cycle with the inputs `i`. -/
def drive (i : Inputs) (s : State) : Host.Outcome State Fault Refusal := step (s.withInput i)

/-- The host's duty at the report port: the report is offered, cycle after cycle, until the cycle in
which `rpt_ready = 1`, at whose edge it is taken (R101; spec/70_reset_and_hazards.md R257); at most
`n` cycles. -/
def offerReport (data : Vector Byte 64) : Nat → State → Host.Outcome State Fault Refusal
  | 0, s => .next s
  | n + 1, s =>
    andThen (drive { Inputs.quiet with rptValid := true, rptData := data } s) fun t =>
      if s.decState = .idle then .next t else offerReport data n t

/-- A script line with its `@c:` prefix: presented in cycle `cycle` (R101). -/
structure TimedLine where
  cycle : Nat
  line : HostLine
deriving DecidableEq, Repr

/-- The host's inputs in cycle `c`: the lines of that cycle, and a report still held from an earlier
one. A timed `WAIT n` presents nothing of its own, so in its `n` cycles a held report and the other
lines that fall there are presented all the same; R101 does not say which of the two gives way, and
this is the model's choice (log entry 18). -/
def hostInputs (script : List TimedLine) (c : Nat) (held : Option (Vector Byte 64)) : Option Inputs :=
  (presentLines ((script.filter fun l => l.cycle == c).map TimedLine.line)).map fun i =>
    match held with
    | some d => if i.rptValid then i else { i with rptValid := true, rptData := d }
    | none => i

/-- `n` cycles of a script from cycle `c` on: a report is held until the cycle in which
`rpt_ready = 1` (R101), also if that cycle has `rst = 1` (log entry 17); `none` if a form is refused
(R103). -/
def play (script : List TimedLine) :
    Nat → Nat → Option (Vector Byte 64) → State → Option (Host.Outcome State Fault Refusal)
  | 0, _, _, s => some (.next s)
  | n + 1, c, held, s =>
    match hostInputs script c held with
    | none => none
    | some i =>
      match drive i s with
      | .next t =>
        play script n (c + 1) (if i.rptValid && s.decState != .idle then some i.rptData else none) t
      | .fault r => some (.fault r)
      | .refused r => some (.refused r)

end Sys2Proof.Machine
end

