-- ==== Sys2Proof/Safety.lean ====
section
/-!
DEFINITION. The terms that claims about LEDCORE use: the invariant of reachable states, what a run
is, and which parts of two states agree.
-/

namespace Sys2Proof.Machine

/-- The invariant of every state reachable from reset: R45 (a) to (d) of spec/10_state.md. The ranges
that R28 and R40 give the two divider counters hold of every `State` (`blinkCnt_lt`, `cellCnt_lt`). -/
structure State.Inv (s : State) : Prop where
  idle_line : s.txBusy = false → s.txByte = 0 ∧ s.txBit = 0 ∧ s.cellCnt = 0
  idle_grp : s.decState ≠ .run → s.decGrp = 0 ∨ s.decGrp = 15
  ack_idle : s.ackPulse = true → s.decState = .idle
  ack_busy : s.ackPulse = true → s.txBusy = true

/-! ### Conditions the rules name -/

/-- A launch may happen: transmitter idle, decoder not in RUN, a request pending (R200, R202). -/
def LaunchEnabled (s : State) : Prop :=
  s.txBusy = false ∧ s.decState ≠ .run ∧
    (s.decState = .wait ∨ s.reqBlink = true ∨ s.reqExt = true)

/-- The current cycle is the last of the frame in flight (R207). -/
def LastFrameCycle (s : State) : Prop :=
  s.txBusy = true ∧ s.cellCnt = s.params.cellDiv - 1 ∧ s.txBit.val = 7 ∧ s.txByte.val = 1021

/-! ### Encodings and the waveform -/

/-- The row of the table of R96 that a header value lies in: the operation it selects. -/
def headerRow (h : Nat) (r g b : Byte) : Instr :=
  if h = 0x00 then .nop r g b
  else if h ≤ 0x1F then .setOff false (BitVec.ofNat 5 h) r g b
  else if h ≤ 0x3F then .setOn false (BitVec.ofNat 5 (h - 0x20)) r g b
  else if h ≤ 0x5F then .setBlink false (BitVec.ofNat 5 (h - 0x40)) r g b
  else if h ≤ 0x7F then .setPs3 false (BitVec.ofNat 5 (h - 0x60)) r g b
  else if h ≤ 0x9F then .setOff true (BitVec.ofNat 5 (h - 0x80)) r g b
  else if h ≤ 0xBF then .setOn true (BitVec.ofNat 5 (h - 0xA0)) r g b
  else if h ≤ 0xDF then .setBlink true (BitVec.ofNat 5 (h - 0xC0)) r g b
  else .setPs3 true (BitVec.ofNat 5 (h - 0xE0)) r g b

/-- The number of the 256 headers whose operation satisfies `q` (R96). -/
def headersWith (q : Instr → Bool) : Nat :=
  ((List.range 256).filter fun h =>
    q (decodeGroup ⟨BitVec.ofNat 8 h, 0x00#8, 0x00#8, 0x00#8⟩)).length

/-- The colour channel that channel number `c` of R185 names: green, red, blue. -/
def wireChannel (col : Rgb) (c : Nat) : Byte := if c = 0 then col.g else if c = 1 then col.r else col.b

/-- The line bits of a frame that are high (spec/43_waveform_encoder.md R191). -/
def highLineBits (snap : Vector GrbWord 32) : Nat :=
  ∑ p ∈ Finset.range 1022, ∑ t ∈ Finset.range 8, if lineBit snap p t then 1 else 0

/-- The 1 bits of a snapshot. -/
def onesOf (snap : Vector GrbWord 32) : Nat :=
  ∑ k : Fin 32, ∑ j ∈ Finset.range 24, if snap[k].getLsbD j then 1 else 0

/-! ### Runs -/

/-- `n` cycles from `s` end in `t`. -/
def Runs (n : Nat) (s t : State) : Prop := Host.Core.run Sys2Proof.core n s = .next t

/-- The inputs the host drives `k` cycles from now. -/
def State.inputAt (s : State) (k : Nat) : Inputs := s.inputs.getD k Inputs.quiet

/-- `rst` is 0 in each of the next `n` cycles. -/
def State.NoReset (s : State) (n : Nat) : Prop := ∀ k, k < n → (s.inputAt k).rst = false

/-- The clock cycles of the frame in flight that came before the current one: position
`(8·tx_byte + tx_bit)·CELL_DIV + cell_cnt` of the frame's 8176·CELL_DIV cycles
(spec/44_frame_transmitter.md R213). -/
def State.framePos (s : State) : Nat :=
  (8 * s.txByte.val + s.txBit.val) * s.params.cellDiv + s.cellCnt

/-- The table after the group `w` (spec/40_command_decoder.md R124 to R128): the plain form of one
group's effect, for claims about whole reports. -/
def applyGroup (T : Vector Entry 32) (w : GroupWord) : Vector Entry 32 :=
  if w.header = 0x00#8 then T
  else tabulate 32 fun k =>
    if (headerIdx w.header).toNat = k.val then ⟨w.r, w.g, w.b, headerPs w.header⟩ else T[k]

/-- The table after the first `n` groups of a report, in ascending order (R123, R129). -/
def applyGroups (T : Vector Entry 32) (buf : Vector Byte 64) : Nat → Vector Entry 32
  | 0 => T
  | n + 1 => if h : n < 16 then applyGroup (applyGroups T buf n) (groupAt buf ⟨n, h⟩)
      else applyGroups T buf n

/-! ### What two states share -/

/-- Entry by entry the same table. -/
def SameTable (s t : State) : Prop := ∀ k, readEntry t.T k = readEntry s.T k

/-- The same blink timer registers. -/
def SameBlink (s t : State) : Prop :=
  t.phase = s.phase ∧ t.blinkCnt = s.blinkCnt ∧ t.reqBlink = s.reqBlink

/-- The same microstate of the command decoder. -/
def SameMicrostate (s t : State) : Prop := t.decState = s.decState ∧ t.decGrp = s.decGrp

/-- The same captured report. -/
def SameReport (s t : State) : Prop := t.rptBuf = s.rptBuf

/-- The same acknowledgement pulse. -/
def SameAck (s t : State) : Prop := t.ackPulse = s.ackPulse

/-- The same pending clear and external render request. -/
def SameStrobes (s t : State) : Prop := t.clrPend = s.clrPend ∧ t.reqExt = s.reqExt

/-- The same snapshot. -/
def SameSnap (s t : State) : Prop := t.snap = s.snap

/-- The same transmitter registers. -/
def SameLine (s t : State) : Prop :=
  t.txBusy = s.txBusy ∧ t.txByte = s.txByte ∧ t.txBit = s.txBit ∧ t.cellCnt = s.cellCnt

/-- The same parameters and coming inputs. -/
def SameHost (s t : State) : Prop := t.params = s.params ∧ t.inputs = s.inputs

/-- The same fifteen registers (spec/10_state.md R22). -/
def SameRegisters (s t : State) : Prop :=
  SameTable s t ∧ SameBlink s t ∧ SameMicrostate s t ∧ SameReport s t ∧ SameAck s t ∧
    SameStrobes s t ∧ SameSnap s t ∧ SameLine s t

/-! ### Frames: what an operation leaves alone -/

/-- How the microstate moves in a RUN cycle (spec/40_command_decoder.md R123). -/
def NextGroup (s t : State) : Prop :=
  if s.decGrp.val = 15 then t.decState = .wait ∧ t.decGrp = s.decGrp
  else t.decState = .run ∧ t.decGrp.val = s.decGrp.val + 1

/-- A command-group operation may change the table and the microstate, nothing else. -/
def GroupFrame (s t : State) : Prop :=
  SameBlink s t ∧ SameReport s t ∧ SameAck s t ∧ SameStrobes s t ∧ SameSnap s t ∧ SameLine s t ∧
    SameHost s t ∧ t.rdPort = s.rdPort

/-- Entry `idx` is `e` and every other entry is as before. -/
def EntryWritten (s t : State) (idx : LedIdx) (e : Entry) : Prop :=
  ∀ k, readEntry t.T k = if k = idx.toNat then e else readEntry s.T k

/-- Every register has the reset value of spec/70_reset_and_hazards.md R252. -/
def RegistersReset (t : State) : Prop :=
  (∀ k, readEntry t.T k = offEntry) ∧ t.phase = true ∧ t.blinkCnt = 0 ∧ t.reqBlink = false ∧
    t.decState = .idle ∧ t.decGrp = 0 ∧ (∀ k, (h : k < 64) → t.rptBuf[k] = 0x00#8) ∧
    t.ackPulse = false ∧ t.clrPend = false ∧ t.reqExt = false ∧
    (∀ k, (h : k < 32) → t.snap[k] = 0#24) ∧
    t.txBusy = false ∧ t.txByte = 0 ∧ t.txBit = 0 ∧ t.cellCnt = 0

end Sys2Proof.Machine
end

