-- ==== Sys2Proof/Certificates/Slice0/Obligations.lean ====
section
/-!
DEFINITION. The statements about the model, from the numbered rules of spec/.
Every statement about one operation says that it completes under its hypotheses, what it does and
what it leaves alone. Every statement that speaks of `State.params` holds for all values of
`CELL_DIV` and `BLINK_DIV`.
-/

open Sys2Proof Sys2Proof.Machine

/-! ## Encoding -/

/-- Every group word decodes to a well-formed operation whose encoding is that word, and every
well-formed group operation decodes back from its encoding (R96: no bit is dropped). -/
def Obligations.GroupEncodingRoundTrip : Prop :=
  (∀ w : GroupWord, encode (decodeGroup w) = some (.group w) ∧ (decodeGroup w).WellFormed ∧
    (decodeGroup w).isGroup = true) ∧
  (∀ i : Instr, i.isGroup = true → i.WellFormed →
    ∃ w : GroupWord, encode i = some (.group w) ∧ decode (.group w) = [i])

/-- Each port operation, driven alone, is what its input ports select, beside the `GET` that is
always selected (R98); `RST` overrides the strobes. -/
def Obligations.PortEncodingSelectsItsOperation : Prop :=
  (∀ i p, encode i = some (.ports p) →
    decode (.ports p) = .get p.rdIdx :: (if i = .get p.rdIdx then [] else [i])) ∧
  (∀ p : Inputs, p.rst = true → decode (.ports p) = [.get p.rdIdx, .rst])

/-- R94: `NOP` is selected when and only when the whole header byte is 0x00. -/
def Obligations.NopIsExactlyTheZeroHeader : Prop :=
  ∀ w : GroupWord, (∃ r g b, decodeGroup w = .nop r g b) ↔ w.header = 0x00#8

/-- R95: every other header selects a `SET` operation by header bits 6:5; bit 7 does not select. -/
def Obligations.SetOperationChosenByPowerStateBits : Prop :=
  ∀ w : GroupWord, w.header ≠ 0x00#8 →
    (w.header.extractLsb' 5 2 = 0#2 →
      ∃ x idx, decodeGroup w = .setOff x idx w.r w.g w.b) ∧
    (w.header.extractLsb' 5 2 = 1#2 →
      ∃ x idx, decodeGroup w = .setOn x idx w.r w.g w.b) ∧
    (w.header.extractLsb' 5 2 = 2#2 →
      ∃ x idx, decodeGroup w = .setBlink x idx w.r w.g w.b) ∧
    (w.header.extractLsb' 5 2 = 3#2 →
      ∃ x idx, decodeGroup w = .setPs3 x idx w.r w.g w.b)

/-- R96: the table of the 256 header values, row by row, with its counts; 0x80 is the only spelling
of `SET.OFF` for LED 0. -/
def Obligations.HeaderTableIsDecoded : Prop :=
  (∀ w : GroupWord, decodeGroup w = headerRow w.header.toNat w.r w.g w.b) ∧
  headersWith (fun i => match i with | .nop _ _ _ => true | _ => false) = 1 ∧
  headersWith (fun i => match i with | .setOff _ _ _ _ _ => true | _ => false) = 63 ∧
  headersWith (fun i => match i with | .setOn _ _ _ _ _ => true | _ => false) = 64 ∧
  headersWith (fun i => match i with | .setBlink _ _ _ _ _ => true | _ => false) = 64 ∧
  headersWith (fun i => match i with | .setPs3 _ _ _ _ _ => true | _ => false) = 64 ∧
  (∀ w x r g b, decodeGroup w = .setOff x 0#5 r g b → w.header = 0x80#8)

/-- Five group words written out from the header encodings of spec/30_encoding.md (R92 to R96) decode
to their operations. The last two clauses are the model's reading of a bare port vector
`{rst, rpt_valid, clr, render_req}` in bits 3..0 (log entry 12) of the selections of R98. -/
def Obligations.SpecWordsDecode : Prop :=
  decodeGroup ⟨0x00#8, 0xFF#8, 0xFF#8, 0xFF#8⟩ = .nop 0xFF#8 0xFF#8 0xFF#8 ∧
  decodeGroup ⟨0x80#8, 9#8, 9#8, 9#8⟩ = .setOff true 0#5 9#8 9#8 9#8 ∧
  decodeGroup ⟨0x21#8, 10#8, 20#8, 30#8⟩ = .setOn false 1#5 10#8 20#8 30#8 ∧
  decodeGroup ⟨0x40#8, 255#8, 0#8, 0#8⟩ = .setBlink false 0#5 255#8 0#8 0#8 ∧
  decodeGroup ⟨0x62#8, 0x11#8, 0x22#8, 0x33#8⟩ = .setPs3 false 2#5 0x11#8 0x22#8 0x33#8 ∧
  decodePortRow (vectorInputs 0b1000) = .rst ∧
  decodePortRow (vectorInputs 0b0010) = .clr

/-- R64: byte k of the report is `rpt_data[8k+7:8k]`, so byte 0 lies in bits 7:0 and byte 63 in bits
511:504; packing and unpacking the port are inverse. -/
def Obligations.ReportPortPacking : Prop :=
  (∀ (d : BitVec 512) (k : Nat) (h : k < 64),
    (unpackReport d)[k] = d.extractLsb' (8 * k) 8) ∧
  (∀ v : Vector Byte 64, unpackReport (packReport v) = v) ∧
  (∀ d : BitVec 512, packReport (unpackReport d) = d) ∧
  (∀ v : Vector Byte 64, (packReport v).extractLsb' 0 8 = v[0] ∧
    (packReport v).extractLsb' 504 8 = v[63])

/-- R102, R103: an assembled `SET.OFF` or `OFF` never is header 0x00 and decodes to `SET.OFF` of its
index; out-of-range numbers and reports of more than 16 groups are refused. -/
def Obligations.NotationNeverSpellsSetOffAsNop : Prop :=
  (∀ idx r g b, idx < 32 → r < 256 → g < 256 → b < 256 →
    ∃ w, (GroupForm.setOff idx r g b).assemble = some w ∧ w.header ≠ 0x00#8 ∧
      decodeGroup w = .setOff (idx == 0) (BitVec.ofNat 5 idx) (BitVec.ofNat 8 r)
        (BitVec.ofNat 8 g) (BitVec.ofNat 8 b)) ∧
  (∀ idx, (GroupForm.off idx).assemble = (GroupForm.setOff idx 0 0 0).assemble) ∧
  (∀ idx r g b, 32 ≤ idx ∨ 256 ≤ r ∨ 256 ≤ g ∨ 256 ≤ b →
    (GroupForm.setOff idx r g b).assemble = none ∧ (GroupForm.setOn idx r g b).assemble = none ∧
    (GroupForm.setBlink idx r g b).assemble = none ∧ (GroupForm.setPs3 idx r g b).assemble = none) ∧
  (∀ fs : List GroupForm, 16 < fs.length → assembleReport fs = none)

/-! ## Command-group operations -/

/-- In a RUN cycle every command-group operation completes, and the microstate moves on as R123
says. That this move is part of the operation's meaning is the model's choice (log entry 5). -/
def Obligations.GroupOperationsMoveTheMicrostate : Prop :=
  ∀ (i : Instr) (s : State), i.isGroup = true → s.decState = .run →
    ∃ t, exec i s = .next t ∧ NextGroup s t ∧ GroupFrame s t

/-- R124: `NOP` writes no table entry, whatever its colour bytes. -/
def Obligations.NopLeavesTheTable : Prop :=
  ∀ (s : State) (r g b : Byte), s.decState = .run →
    ∃ t, exec (.nop r g b) s = .next t ∧ SameTable s t ∧ GroupFrame s t

/-- R125: `SET.OFF` stores its colour with code 0, which renders black; it is selected by a nonzero
header with bits 6:5 = 0, for LED 0 only by 0x80. -/
def Obligations.SetOffStoresItsEntry : Prop :=
  (∀ (s : State) (x : Bool) (idx : LedIdx) (r g b : Byte), s.decState = .run →
    ∃ t, exec (.setOff x idx r g b) s = .next t ∧ EntryWritten s t idx ⟨r, g, b, 0#2⟩ ∧
      GroupFrame s t) ∧
  (∀ w : GroupWord, w.header ≠ 0x00#8 → w.header.extractLsb' 5 2 = 0#2 →
    decodeGroup w =
      .setOff (w.header.getLsbD 7) (w.header.extractLsb' 0 5) w.r w.g w.b) ∧
  (∀ w x r g b, decodeGroup w = .setOff x 0#5 r g b → w.header = 0x80#8) ∧
  (∀ r g b ph, eff ⟨r, g, b, 0#2⟩ ph = black)

/-- R126: `SET.ON` stores its colour with code 1; header bit 7 does not change the entry. -/
def Obligations.SetOnStoresItsEntry : Prop :=
  (∀ (s : State) (x : Bool) (idx : LedIdx) (r g b : Byte), s.decState = .run →
    ∃ t, exec (.setOn x idx r g b) s = .next t ∧ EntryWritten s t idx ⟨r, g, b, 1#2⟩ ∧
      GroupFrame s t) ∧
  (∀ w : GroupWord, w.header.extractLsb' 5 2 = 1#2 →
    decodeGroup w =
      .setOn (w.header.getLsbD 7) (w.header.extractLsb' 0 5) w.r w.g w.b)

/-- R127: `SET.BLINK` stores its colour with code 2, which renders the colour in the on-phase and
black in the off-phase. -/
def Obligations.SetBlinkStoresItsEntry : Prop :=
  (∀ (s : State) (x : Bool) (idx : LedIdx) (r g b : Byte), s.decState = .run →
    ∃ t, exec (.setBlink x idx r g b) s = .next t ∧ EntryWritten s t idx ⟨r, g, b, 2#2⟩ ∧
      GroupFrame s t) ∧
  (∀ w : GroupWord, w.header.extractLsb' 5 2 = 2#2 →
    decodeGroup w =
      .setBlink (w.header.getLsbD 7) (w.header.extractLsb' 0 5) w.r w.g w.b) ∧
  (∀ r g b, eff ⟨r, g, b, 2#2⟩ true = ⟨r, g, b⟩ ∧ eff ⟨r, g, b, 2#2⟩ false = black)

/-- R128: `SET.PS3` stores its colour with the undefined code 3, which renders black in every phase
and is what the read port then returns. -/
def Obligations.SetPs3StoresItsEntry : Prop :=
  (∀ (s : State) (x : Bool) (idx : LedIdx) (r g b : Byte), s.decState = .run →
    ∃ t, exec (.setPs3 x idx r g b) s = .next t ∧ EntryWritten s t idx ⟨r, g, b, 3#2⟩ ∧
      GroupFrame s t ∧
      ∀ i : Inputs, i.rdIdx.toNat = idx.toNat → (out t i).rdPs = 3#2) ∧
  (∀ w : GroupWord, w.header.extractLsb' 5 2 = 3#2 →
    decodeGroup w =
      .setPs3 (w.header.getLsbD 7) (w.header.extractLsb' 0 5) w.r w.g w.b) ∧
  (∀ r g b ph, eff ⟨r, g, b, 3#2⟩ ph = black)

/-- Outside RUN no command-group operation does anything: "Every group operation executes only in a
cycle with … s.dec_state == RUN" (the operation is then not selected; log entry 6). -/
def Obligations.GroupOperationsNeedRun : Prop :=
  ∀ (i : Instr) (s : State), i.isGroup = true → s.decState ≠ .run → exec i s = .next s

/-- R97 (a): the reserved header bit 7 is ignored by every `SET` operation. -/
def Obligations.ReservedHeaderBitIsIgnored : Prop :=
  ∀ (s : State) (x y : Bool) (idx : LedIdx) (r g b : Byte),
    exec (.setOff x idx r g b) s = exec (.setOff y idx r g b) s ∧
    exec (.setOn x idx r g b) s = exec (.setOn y idx r g b) s ∧
    exec (.setBlink x idx r g b) s = exec (.setBlink y idx r g b) s ∧
    exec (.setPs3 x idx r g b) s = exec (.setPs3 y idx r g b) s

/-! ## Port operations -/

/-- `RST` puts every register at its reset value (R251, R252) and leaves the parameters. -/
def Obligations.RstResetsEveryRegister : Prop :=
  ∀ s : State, ∃ t, exec .rst s = .next t ∧ RegistersReset t ∧ SameHost s t ∧ t.rdPort = s.rdPort

/-- R251: in a cycle with `rst = 1` every register takes its reset value whatever the other inputs
and the state, and every output has its reset value in the next cycle. -/
def Obligations.ResetOverridesEveryOtherInput : Prop :=
  ∀ s : State, s.input.rst = true →
    ∃ t, step s = .next t ∧ RegistersReset t ∧ t.params = s.params ∧
      ∀ i : Inputs, out t i = out (State.resetOf s.params) i

/-- R253: the outputs of the first cycle after reset, for every `rd_idx`. -/
def Obligations.OutputsAfterReset : Prop :=
  ∀ (s : State) (i : Inputs), s.input.rst = true →
    ∃ t, step s = .next t ∧
      (out t i).rptReady = true ∧ (out t i).ackValid = false ∧ (out t i).ackData = 0x00#8 ∧
      (out t i).txBusy = false ∧ (out t i).ledOut = false ∧ (out t i).blinkPhase = true ∧
      (out t i).rdR = 0x00#8 ∧ (out t i).rdG = 0x00#8 ∧ (out t i).rdB = 0x00#8 ∧
      (out t i).rdPs = 0#2

/-- `REPORT`: an IDLE decoder captures the 64 bytes and enters RUN at group 0; any other decoder
leaves every register (R121). -/
def Obligations.ReportIsCapturedWhenIdle : Prop :=
  (∀ (s : State) (d : Vector Byte 64), s.decState = .idle →
    ∃ t, exec (.report d) s = .next t ∧ t.rptBuf = d ∧ t.decGrp = 0 ∧ t.decState = .run ∧
      SameTable s t ∧ SameBlink s t ∧ SameAck s t ∧ SameStrobes s t ∧ SameSnap s t ∧
      SameLine s t ∧ SameHost s t ∧ t.rdPort = s.rdPort) ∧
  (∀ (s : State) (d : Vector Byte 64), s.decState ≠ .idle → exec (.report d) s = .next s)

/-- `CLR` and `RENDER` latch their requests and touch nothing else (R156, R158, R201). -/
def Obligations.StrobesLatchTheirRequests : Prop :=
  ∀ s : State,
    (∃ t, exec .clr s = .next t ∧ t.clrPend = true ∧ t.reqExt = s.reqExt ∧ SameTable s t ∧
      SameBlink s t ∧ SameMicrostate s t ∧ SameReport s t ∧ SameAck s t ∧ SameSnap s t ∧
      SameLine s t ∧ SameHost s t ∧ t.rdPort = s.rdPort) ∧
    (∃ t, exec .render s = .next t ∧ t.reqExt = true ∧ t.clrPend = s.clrPend ∧ SameTable s t ∧
      SameBlink s t ∧ SameMicrostate s t ∧ SameReport s t ∧ SameAck s t ∧ SameSnap s t ∧
      SameLine s t ∧ SameHost s t ∧ t.rdPort = s.rdPort)

/-- `GET`, driven for an index below 32, reads that entry; for any other index it reads `OFF_ENTRY`;
no register changes (R154, R73). That the read data stays in `rdPort` for the next state is the
model's own (log entry 3). -/
def Obligations.GetReadsOneEntry : Prop :=
  ∀ (s : State) (idx : Byte), ∃ t, exec (.get idx) s = .next t ∧
    (∀ h : idx.toNat < 32, t.rdPort = s.T[idx.toNat]) ∧
    (32 ≤ idx.toNat → t.rdPort = ⟨0x00#8, 0x00#8, 0x00#8, 0#2⟩) ∧
    SameRegisters s t ∧ SameHost s t

/-- R154: the read port carries the current entry for an index below 32, its stored code included,
and `OFF_ENTRY` for 32..255, within the cycle; the read changes no register. -/
def Obligations.ReadPortCarriesTheEntry : Prop :=
  (∀ (s : State) (i : Inputs),
    (∀ h : i.rdIdx.toNat < 32, (out s i).rdR = (s.T[i.rdIdx.toNat]).r ∧
      (out s i).rdG = (s.T[i.rdIdx.toNat]).g ∧ (out s i).rdB = (s.T[i.rdIdx.toNat]).b ∧
      (out s i).rdPs = (s.T[i.rdIdx.toNat]).ps) ∧
    (32 ≤ i.rdIdx.toNat → (out s i).rdR = 0x00#8 ∧ (out s i).rdG = 0x00#8 ∧
      (out s i).rdB = 0x00#8 ∧ (out s i).rdPs = 0#2)) ∧
  (∀ (s : State) (idx : Byte), ∃ t, exec (.get idx) s = .next t ∧ SameRegisters s t)

/-! ## Internal events -/

/-- `TICK` in the last cycle of the divider (R170 to R173) restarts it, toggles the phase and
requests a render; in any other cycle it does not happen. -/
def Obligations.TickTogglesThePhase : Prop :=
  (∀ s : State, s.blinkCnt = s.params.blinkDiv - 1 →
    ∃ t, exec .tick s = .next t ∧ t.blinkCnt = 0 ∧ t.phase = !s.phase ∧ t.reqBlink = true ∧
      SameTable s t ∧ SameMicrostate s t ∧ SameReport s t ∧ SameAck s t ∧ SameStrobes s t ∧
      SameSnap s t ∧ SameLine s t ∧ SameHost s t ∧ t.rdPort = s.rdPort) ∧
  (∀ s : State, s.blinkCnt ≠ s.params.blinkDiv - 1 → exec .tick s = .next s)

/-- `LAUNCH` captures the snapshot of the table and phase (R204), starts the transmitter (R205),
retires every pending request (R203), and sends a waiting decoder to IDLE with its acknowledgement
(R131, R132); where its condition fails it does not happen. -/
def Obligations.LaunchStartsAFrame : Prop :=
  (∀ s : State, LaunchEnabled s →
    ∃ t, exec .launch s = .next t ∧
      (∀ k, (h : k < 32) → t.snap[k] = grb (eff s.T[k] s.phase)) ∧
      t.txBusy = true ∧ t.txByte = 0 ∧ t.txBit = 0 ∧ t.cellCnt = 0 ∧
      t.reqBlink = false ∧ t.reqExt = false ∧
      (s.decState = .wait → t.decState = .idle ∧ t.ackPulse = true) ∧
      (s.decState = .idle → t.decState = .idle ∧ t.ackPulse = false) ∧
      t.decGrp = s.decGrp ∧ SameTable s t ∧ t.phase = s.phase ∧ t.blinkCnt = s.blinkCnt ∧
      SameReport s t ∧ t.clrPend = s.clrPend ∧ SameHost s t ∧ t.rdPort = s.rdPort) ∧
  (∀ s : State, ¬LaunchEnabled s → exec .launch s = .next s)

/-- `SHIFT` in a busy cycle: the four branches of R206, the last of which is `DONE`; with an idle
transmitter it does not happen. -/
def Obligations.ShiftAdvancesTheSerializer : Prop :=
  (∀ s : State, s.txBusy = true →
    ∃ t, exec .shift s = .next t ∧
      (s.cellCnt < s.params.cellDiv - 1 → t.cellCnt = s.cellCnt + 1 ∧ t.txBit = s.txBit ∧
        t.txByte = s.txByte ∧ t.txBusy = true) ∧
      (s.params.cellDiv - 1 ≤ s.cellCnt → s.txBit.val < 7 → t.cellCnt = 0 ∧
        t.txBit.val = s.txBit.val + 1 ∧ t.txByte = s.txByte ∧ t.txBusy = true) ∧
      (s.params.cellDiv - 1 ≤ s.cellCnt → s.txBit.val = 7 → s.txByte.val < 1021 → t.cellCnt = 0 ∧
        t.txBit = 0 ∧ t.txByte.val = s.txByte.val + 1 ∧ t.txBusy = true) ∧
      (s.params.cellDiv - 1 ≤ s.cellCnt → s.txBit.val = 7 → s.txByte.val = 1021 →
        t.cellCnt = 0 ∧ t.txBit = 0 ∧ t.txByte = 0 ∧ t.txBusy = false) ∧
      SameTable s t ∧ SameBlink s t ∧ SameMicrostate s t ∧ SameReport s t ∧ SameAck s t ∧
      SameStrobes s t ∧ SameSnap s t ∧ SameHost s t ∧ t.rdPort = s.rdPort) ∧
  (∀ s : State, s.txBusy = false → exec .shift s = .next s)

/-- R207: `DONE` at the edge of the cycle that holds the last line bit; `snap` keeps its value. -/
def Obligations.DoneIdlesTheTransmitter : Prop :=
  (∀ s : State, LastFrameCycle s →
    ∃ t, exec .done s = .next t ∧ t.txBusy = false ∧ t.txByte = 0 ∧ t.txBit = 0 ∧
      t.cellCnt = 0 ∧ SameSnap s t ∧ SameTable s t ∧ SameBlink s t ∧ SameMicrostate s t ∧
      SameReport s t ∧ SameAck s t ∧ SameStrobes s t ∧ SameHost s t ∧ t.rdPort = s.rdPort) ∧
  (∀ s : State, ¬LastFrameCycle s → exec .done s = .next s)

/-! ## The waveform and the output ports -/

/-- R180: the effective-colour table. -/
def Obligations.EffectiveColourTable : Prop :=
  ∀ (r g b : Byte) (ph : Bool),
    eff ⟨r, g, b, 0#2⟩ ph = ⟨0x00#8, 0x00#8, 0x00#8⟩ ∧
    eff ⟨r, g, b, 1#2⟩ ph = ⟨r, g, b⟩ ∧
    eff ⟨r, g, b, 2#2⟩ true = ⟨r, g, b⟩ ∧
    eff ⟨r, g, b, 2#2⟩ false = ⟨0x00#8, 0x00#8, 0x00#8⟩ ∧
    eff ⟨r, g, b, 3#2⟩ ph = ⟨0x00#8, 0x00#8, 0x00#8⟩

/-- R185: position 4 + 24k + 8c + m of a frame carries bit 7 - m of channel c of LED k. -/
def Obligations.WaveformBitMap : Prop :=
  ∀ (T : Vector Entry 32) (ph : Bool) (k c m : Nat) (hk : k < 32), c < 3 → m < 8 →
    waveByte (snapOf T ph) (4 + 24 * k + 8 * c + m) =
      if (wireChannel (eff T[k] ph) c).getLsbD (7 - m) then 0xF8#8 else 0xC0#8

/-- R191: a frame has 1536 high line bits and three more for each 1 bit of its snapshot; so the frame
of an all-off table has exactly 1536. -/
def Obligations.HighLineBitsOfAFrame : Prop :=
  (∀ snap : Vector GrbWord 32, highLineBits snap = 1536 + 3 * onesOf snap) ∧
  (∀ ph : Bool, highLineBits (snapOf (Vector.replicate 32 offEntry) ph) = 1536)

/-- R183, R184: the preamble and the post-pad are 0x00 and every data byte is 0xF8 or 0xC0. -/
def Obligations.WaveformRegions : Prop :=
  ∀ (snap : Vector GrbWord 32) (p : Nat), p < 1022 →
    ((p < 4 ∨ 772 ≤ p) → waveByte snap p = 0x00#8) ∧
    (4 ≤ p → p < 772 → waveByte snap p = 0xF8#8 ∨ waveByte snap p = 0xC0#8)

/-- R186: the eight line bits of a waveform byte in time order. -/
def Obligations.LineBitPatterns : Prop :=
  ∀ (snap : Vector GrbWord 32) (p : Nat),
    (∀ t, lineBit snap p t = (waveByte snap p).getLsbD (7 - t)) ∧
    (waveByte snap p = 0xF8#8 →
      (List.range 8).map (lineBit snap p) = [true, true, true, true, true, false, false, false]) ∧
    (waveByte snap p = 0xC0#8 →
      (List.range 8).map (lineBit snap p) = [true, true, false, false, false, false, false, false]) ∧
    (waveByte snap p = 0x00#8 →
      (List.range 8).map (lineBit snap p) = [false, false, false, false, false, false, false, false])

/-- R209: the line carries the frame's line bit while a frame is in flight and is low in every other
cycle. -/
def Obligations.SerialLineIsGated : Prop :=
  ∀ (s : State) (i : Inputs),
    (s.txBusy = true →
      (out s i).ledOut = (waveByte s.snap s.txByte.val).getLsbD (7 - s.txBit.val)) ∧
    (s.txBusy = false → (out s i).ledOut = false)

/-- The status outputs (R120, R131, R174, R211). -/
def Obligations.StatusOutputs : Prop :=
  ∀ (s : State) (i : Inputs),
    ((out s i).rptReady = true ↔ s.decState = .idle) ∧ (out s i).ackValid = s.ackPulse ∧
    (out s i).ackData = 0x00#8 ∧ (out s i).txBusy = s.txBusy ∧ (out s i).blinkPhase = s.phase

/-! ## The step -/

/-- R230, R20: every step and every operation answers a next state, in every state. -/
def Obligations.EveryStepAnswersNext : Prop :=
  (∀ s : State, ∃ t, step s = .next t) ∧ (∀ (i : Instr) (s : State), ∃ t, exec i s = .next t)

/-- In a RUN cycle without reset, when the group under the multiplexer decodes to `i`, the step runs
`i`: on a state with this cycle's table, microstate and report, and what `i` leaves in the table is
what the step leaves there. The microstate it leaves is the step's too, because the meaning of a group
includes the move of R123 (the model's choice, log entry 5); that there are states `v` and `u` inside
a cycle is the model's sequential order (log entry 4). -/
def Obligations.StepRunsTheDecodedGroup : Prop :=
  ∀ (s : State) (i : Instr), s.input.rst = false → s.decState = .run →
    decodeGroup (groupAt s.rptBuf s.decGrp) = i →
    ∃ v u t, exec i v = .next u ∧ step s = .next t ∧
      v.T = s.T ∧ v.decState = .run ∧ v.decGrp = s.decGrp ∧ v.rptBuf = s.rptBuf ∧
      t.T = u.T ∧ t.decState = u.decState ∧ t.decGrp = u.decGrp ∧ t.rptBuf = u.rptBuf

/-- The step is `exec` of every selected operation (R98, R99), readers of the table before its
writers, with the background rules between them and the inputs consumed at the end; and what is
selected is exactly what R98 and R99 list. -/
def Obligations.StepRunsTheSelectedOperations : Prop :=
  (∀ s : State, ∃ t u, execAll s.readers s.dropAck = .next t ∧
    execAll s.writers (s.background t) = .next u ∧ step s = .next u.popInput) ∧
  (∀ (s : State) (i : Instr), i ∈ s.selected ↔
    i = .get s.input.rdIdx ∨ (s.input.rst = true ∧ i = .rst) ∨
    (s.input.rst = false ∧
      ((i = .report s.input.rptData ∧ s.input.rptValid = true ∧ s.decState = .idle) ∨
        (i = .clr ∧ s.input.clr = true) ∨ (i = .render ∧ s.input.renderReq = true) ∨
        (i = .tick ∧ s.blinkCnt = s.params.blinkDiv - 1) ∨ (i = .launch ∧ LaunchEnabled s) ∨
        (i = .shift ∧ s.txBusy = true) ∨ (i = .done ∧ LastFrameCycle s) ∨
        (i = decodeGroup (groupAt s.rptBuf s.decGrp) ∧ s.decState = .run))))

/-- An operation placed where the step takes it from is selected by the next step: a group word by
its bytes, a port operation by its inputs (log entry 13). -/
def Obligations.PlacedOperationIsSelected : Prop :=
  (∀ (s : State) (w : GroupWord), decodeGroup w ∈ (s.place (.group w)).selected) ∧
  (∀ (s : State) (i : Instr) (p : Inputs), encode i = some (.ports p) →
    i ∈ (s.place (.ports p)).selected)

/-- R21: running the selected operations one after the other (the model's order, log entry 4) is the
spec's simultaneous edge, in which every register's next value is computed from the state and inputs
before the edge. That the step consumes the head of `inputs` (log entry 1) and leaves the read data in
`rdPort` (log entry 3) is the model's. -/
def Obligations.StepIsTheSimultaneousEdge : Prop :=
  ∀ s : State, step s = .next (edge s s.input)

/-- R133: the decoder's complete transition table. -/
def Obligations.DecoderTransitions : Prop :=
  ∀ s : State, s.input.rst = false → ∃ t, step s = .next t ∧
    (s.decState = .idle → s.input.rptValid = false →
      t.decState = .idle ∧ t.decGrp = s.decGrp ∧
      ∀ k, readEntry t.T k = if s.clrPend = true then offEntry else readEntry s.T k) ∧
    (s.decState = .idle → s.input.rptValid = true →
      t.decState = .run ∧ t.decGrp = 0 ∧
      ∀ k, readEntry t.T k = if s.clrPend = true then offEntry else readEntry s.T k) ∧
    (s.decState = .run → s.decGrp.val < 15 →
      t.decState = .run ∧ t.decGrp.val = s.decGrp.val + 1 ∧
      t.T = applyGroup s.T (groupAt s.rptBuf s.decGrp)) ∧
    (s.decState = .run → s.decGrp.val = 15 →
      t.decState = .wait ∧ t.decGrp = s.decGrp ∧
      t.T = applyGroup s.T (groupAt s.rptBuf s.decGrp)) ∧
    (s.decState = .wait → ¬LaunchEnabled s →
      t.decState = .wait ∧ t.decGrp = s.decGrp ∧ SameTable s t) ∧
    (s.decState = .wait → LaunchEnabled s →
      t.decState = .idle ∧ t.decGrp = s.decGrp ∧ SameTable s t)

/-- R170, R171, R172: without reset the divider restarts and the phase toggles at a tick, and otherwise
the divider counts and the phase holds, whatever else the cycle does. -/
def Obligations.PhaseChangesOnlyAtTicks : Prop :=
  ∀ s : State, s.input.rst = false → ∃ t, step s = .next t ∧
    (s.blinkCnt = s.params.blinkDiv - 1 → t.phase = !s.phase ∧ t.blinkCnt = 0) ∧
    (s.blinkCnt ≠ s.params.blinkDiv - 1 → t.phase = s.phase ∧ t.blinkCnt = s.blinkCnt + 1)

/-- R173, R201, R156: the three request flags, in each of which the set wins over the clear; and
R131: the acknowledgement follows exactly the launch that serves a waiting decoder. -/
def Obligations.SetWinsOverClear : Prop :=
  ∀ s : State, s.input.rst = false → ∃ t, step s = .next t ∧
    (t.reqBlink = true ↔ s.blinkCnt = s.params.blinkDiv - 1 ∨
      (s.reqBlink = true ∧ ¬LaunchEnabled s)) ∧
    (t.reqExt = true ↔ s.input.renderReq = true ∨ (s.reqExt = true ∧ ¬LaunchEnabled s)) ∧
    (t.clrPend = true ↔ s.input.clr = true ∨ (s.clrPend = true ∧ s.decState ≠ .idle)) ∧
    (t.ackPulse = true ↔ s.decState = .wait ∧ LaunchEnabled s)

/-- R157: a pending clear is applied at an edge with the decoder IDLE, all entries at once, and is
held otherwise; a launch at that edge takes the table from before it. -/
def Obligations.ClearIsAppliedWhenIdle : Prop :=
  ∀ s : State, s.input.rst = false → s.clrPend = true → ∃ t, step s = .next t ∧
    (s.decState = .idle → (∀ k, readEntry t.T k = offEntry) ∧
      (LaunchEnabled s → ∀ k, (h : k < 32) → t.snap[k] = grb (eff s.T[k] s.phase)) ∧
      (s.input.rptValid = true → t.decState = .run ∧ t.rptBuf = s.input.rptData)) ∧
    (s.decState ≠ .idle → t.clrPend = true) ∧
    (s.decState = .wait → SameTable s t)

/-- R152: an entry changes only by reset, which overrides the others and leaves it `OFF_ENTRY`, by a
group's write in RUN (one entry), or by a clear in IDLE. -/
def Obligations.TableWritersAreExclusive : Prop :=
  ∀ s t : State, step s = .next t → ∀ k, readEntry t.T k ≠ readEntry s.T k →
    (s.input.rst = true ∧ readEntry t.T k = offEntry) ∨
    (s.input.rst = false ∧ s.decState = .run ∧
      (groupAt s.rptBuf s.decGrp).header ≠ 0x00#8 ∧
      k = ((groupAt s.rptBuf s.decGrp).header.extractLsb' 0 5).toNat) ∨
    (s.input.rst = false ∧ s.decState = .idle ∧ s.clrPend = true ∧ readEntry t.T k = offEntry)

/-- R77, R212: the snapshot changes only at a launch or a reset; a launch never happens in RUN or
while a frame is in flight, so `tx_busy` rises only from an idle transmitter with the decoder not in
RUN, and then the snapshot is the one of this cycle's table and phase. -/
def Obligations.SnapshotChangesOnlyAtLaunch : Prop :=
  ∀ s t : State, s.input.rst = false → step s = .next t →
    (¬LaunchEnabled s → t.snap = s.snap) ∧
    (LaunchEnabled s → t.txBusy = true ∧ t.txByte = 0 ∧ t.txBit = 0 ∧ t.cellCnt = 0 ∧
      ∀ k, (h : k < 32) → t.snap[k] = grb (eff s.T[k] s.phase)) ∧
    (s.txBusy = false → t.txBusy = true → LaunchEnabled s) ∧
    (s.decState = .run → t.snap = s.snap) ∧ (s.txBusy = true → t.snap = s.snap)

/-- R258, R82: unless the report is taken in this cycle, the value on `rpt_data` has no effect. -/
def Obligations.ReportDataMattersOnlyWhenTaken : Prop :=
  ∀ (s : State) (d : Vector Byte 64),
    s.decState ≠ .idle ∨ s.input.rptValid = false ∨ s.input.rst = true →
    step (s.withInput { s.input with rptData := d }) = step s

/-- R73, R154: in every cycle the value on `rd_idx` changes no register: the next state differs only
in the read data the host saw. -/
def Obligations.ReadIndexChangesNoRegister : Prop :=
  ∀ (s : State) (idx : Byte), ∃ t u, step s = .next t ∧
    step (s.withInput { s.input with rdIdx := idx }) = .next u ∧ SameRegisters t u ∧
    SameHost t u ∧ t.rdPort = readEntry s.T s.input.rdIdx.toNat ∧
    u.rdPort = readEntry s.T idx.toNat

/-! ## The invariant -/

/-- The state after reset meets the invariant, for every build. -/
def Obligations.ResetMeetsTheInvariant : Prop :=
  ∀ p : Config.Params, (State.resetOf p).Inv

/-- Every step from a state that meets the invariant ends in one that meets it, with any inputs. -/
def Obligations.EveryStepKeepsTheInvariant : Prop :=
  ∀ s t : State, s.Inv → step s = .next t → t.Inv ∧ t.params = s.params

/-- R45: every state reachable from reset, under any inputs, meets the four invariants. -/
def Obligations.ReachableStatesMeetTheInvariant : Prop :=
  ∀ (p : Config.Params) (is : List Inputs) (n : Nat) (t : State),
    Runs n { State.resetOf p with inputs := is } t →
    (t.txBusy = false → t.txByte = 0 ∧ t.txBit = 0 ∧ t.cellCnt = 0) ∧
    (t.decState ≠ .run → t.decGrp = 0 ∨ t.decGrp = 15) ∧
    (t.ackPulse = true → t.decState = .idle) ∧
    (t.ackPulse = true → t.txBusy = true)

/-! ## Runs -/

/-- R123: a report runs for exactly 16 cycles, whatever its groups, and its groups reach the table in
ascending order, one a cycle; then the decoder waits. -/
def Obligations.ReportRunsSixteenGroupsInOrder : Prop :=
  ∀ s : State, s.decState = .run → s.decGrp = 0 → s.NoReset 16 →
    (∀ n, n < 16 → ∃ t, Runs n s t ∧ t.decState = .run ∧ t.decGrp.val = n ∧
      t.rptBuf = s.rptBuf ∧ t.T = applyGroups s.T s.rptBuf n) ∧
    (∃ t, Runs 16 s t ∧ t.decState = .wait ∧ t.decGrp = 15 ∧
      t.T = applyGroups s.T s.rptBuf 16)

/-- R129: when several groups of a report name one index, the one with the highest group number sets
the entry's final value. -/
def Obligations.LastGroupOfAnIndexWins : Prop :=
  ∀ (s : State) (j : Fin 16), s.decState = .run → s.decGrp = 0 → s.NoReset 16 →
    (groupAt s.rptBuf j).header ≠ 0x00#8 →
    (∀ i : Fin 16, j < i → (groupAt s.rptBuf i).header = 0x00#8 ∨
      headerIdx (groupAt s.rptBuf i).header ≠ headerIdx (groupAt s.rptBuf j).header) →
    ∃ t, Runs 16 s t ∧
      readEntry t.T (headerIdx (groupAt s.rptBuf j).header).toNat =
        ⟨(groupAt s.rptBuf j).r, (groupAt s.rptBuf j).g, (groupAt s.rptBuf j).b,
          headerPs (groupAt s.rptBuf j).header⟩

/-- R213: a frame launched at the edge of the current cycle is busy in exactly the next
8176·CELL_DIV cycles, carries the launch cycle's table and phase, and puts line bit t of byte p on
the line in its CELL_DIV cycles; then the transmitter is idle for at least one cycle. -/
def Obligations.FrameLastsExactly8176LineBits : Prop :=
  ∀ s : State, LaunchEnabled s → s.NoReset (8176 * s.params.cellDiv + 1) →
    (∀ n, n < 8176 * s.params.cellDiv → ∃ t, Runs (n + 1) s t ∧ t.txBusy = true ∧
      t.framePos = n ∧
      t.ledOut = lineBit (snapOf s.T s.phase) (n / s.params.cellDiv / 8)
        (n / s.params.cellDiv % 8)) ∧
    (∃ t, Runs (8176 * s.params.cellDiv + 1) s t ∧ t.txBusy = false ∧ t.ledOut = false)

/-- R134: a report accepted in this cycle reaches WAIT 17 cycles later, and with an idle transmitter
there its acknowledgement, `rpt_ready` and `tx_busy` come 18 cycles later. -/
def Obligations.AcknowledgementAfterEighteenCycles : Prop :=
  ∀ s : State, s.decState = .idle → s.input.rptValid = true → s.NoReset 18 →
    ∃ t u, Runs 17 s t ∧ t.decState = .wait ∧ Runs 18 s u ∧
      (t.txBusy = false → u.ackPulse = true ∧ u.decState = .idle ∧ u.txBusy = true) ∧
      (t.txBusy = true → u.ackPulse = false ∧ u.decState = .wait)

/-- R134, R265: from acceptance to acknowledgement takes at least 18 and at most
8176·CELL_DIV + 2 cycles, and no acknowledgement comes before. -/
def Obligations.AcknowledgementIsBounded : Prop :=
  ∀ s : State, s.Inv → s.decState = .idle → s.input.rptValid = true →
    s.NoReset (8176 * s.params.cellDiv + 2) →
    ∃ n, 18 ≤ n ∧ n ≤ 8176 * s.params.cellDiv + 2 ∧
      (∃ t, Runs n s t ∧ t.ackPulse = true ∧ t.decState = .idle) ∧
      (∀ m, 1 ≤ m → m < n → ∃ t, Runs m s t ∧ t.ackPulse = false ∧ t.decState ≠ .idle)

/-- R175: counted from reset, the divider holds the cycle number modulo BLINK_DIV and the phase is on
in every even period of BLINK_DIV cycles, whatever the host does short of a reset. -/
def Obligations.TickTimesFromReset : Prop :=
  ∀ (p : Config.Params) (is : List Inputs) (n : Nat),
    ({ State.resetOf p with inputs := is } : State).NoReset n →
    ∃ t, Runs n { State.resetOf p with inputs := is } t ∧
      t.blinkCnt = n % p.blinkDiv ∧ (t.phase = true ↔ n / p.blinkDiv % 2 = 0)

/-- R215: a render request pending in this cycle is served by a launch at an edge at most
8176·CELL_DIV + 16 cycles later. -/
def Obligations.PendingRequestIsServedInTime : Prop :=
  ∀ s : State, s.Inv → (s.decState = .wait ∨ s.reqBlink = true ∨ s.reqExt = true) →
    s.NoReset (8176 * s.params.cellDiv + 17) →
    ∃ n t, n ≤ 8176 * s.params.cellDiv + 16 ∧ Runs n s t ∧ LaunchEnabled t ∧
      t.input.rst = false
end

