-- ==== Sys2Proof/Laws/State.lean ====
section
/-!
SUPPORT. One lemma per field per register update, each true by `rfl` (or by the cases of the update's
own test), so that no later proof unfolds a record update.
-/

namespace Sys2Proof.Machine

/-! ### `applyClear` -/

@[simp] theorem State.applyClear_params (s : State) : s.applyClear.params = s.params := rfl
@[simp] theorem State.applyClear_inputs (s : State) : s.applyClear.inputs = s.inputs := rfl
@[simp] theorem State.applyClear_rdPort (s : State) : s.applyClear.rdPort = s.rdPort := rfl
@[simp] theorem State.applyClear_T (s : State) : s.applyClear.T = Vector.replicate 32 offEntry := rfl
@[simp] theorem State.applyClear_phase (s : State) : s.applyClear.phase = s.phase := rfl
@[simp] theorem State.applyClear_blinkCnt (s : State) : s.applyClear.blinkCnt = s.blinkCnt := rfl
@[simp] theorem State.applyClear_reqBlink (s : State) : s.applyClear.reqBlink = s.reqBlink := rfl
@[simp] theorem State.applyClear_decState (s : State) : s.applyClear.decState = s.decState := rfl
@[simp] theorem State.applyClear_decGrp (s : State) : s.applyClear.decGrp = s.decGrp := rfl
@[simp] theorem State.applyClear_rptBuf (s : State) : s.applyClear.rptBuf = s.rptBuf := rfl
@[simp] theorem State.applyClear_ackPulse (s : State) : s.applyClear.ackPulse = s.ackPulse := rfl
@[simp] theorem State.applyClear_clrPend (s : State) : s.applyClear.clrPend = false := rfl
@[simp] theorem State.applyClear_reqExt (s : State) : s.applyClear.reqExt = s.reqExt := rfl
@[simp] theorem State.applyClear_snap (s : State) : s.applyClear.snap = s.snap := rfl
@[simp] theorem State.applyClear_txBusy (s : State) : s.applyClear.txBusy = s.txBusy := rfl
@[simp] theorem State.applyClear_txByte (s : State) : s.applyClear.txByte = s.txByte := rfl
@[simp] theorem State.applyClear_txBit (s : State) : s.applyClear.txBit = s.txBit := rfl
@[simp] theorem State.applyClear_cellCnt (s : State) : s.applyClear.cellCnt = s.cellCnt := rfl

/-! ### `latchClear` -/

@[simp] theorem State.latchClear_params (s : State) : s.latchClear.params = s.params := rfl
@[simp] theorem State.latchClear_inputs (s : State) : s.latchClear.inputs = s.inputs := rfl
@[simp] theorem State.latchClear_rdPort (s : State) : s.latchClear.rdPort = s.rdPort := rfl
@[simp] theorem State.latchClear_T (s : State) : s.latchClear.T = s.T := rfl
@[simp] theorem State.latchClear_phase (s : State) : s.latchClear.phase = s.phase := rfl
@[simp] theorem State.latchClear_blinkCnt (s : State) : s.latchClear.blinkCnt = s.blinkCnt := rfl
@[simp] theorem State.latchClear_reqBlink (s : State) : s.latchClear.reqBlink = s.reqBlink := rfl
@[simp] theorem State.latchClear_decState (s : State) : s.latchClear.decState = s.decState := rfl
@[simp] theorem State.latchClear_decGrp (s : State) : s.latchClear.decGrp = s.decGrp := rfl
@[simp] theorem State.latchClear_rptBuf (s : State) : s.latchClear.rptBuf = s.rptBuf := rfl
@[simp] theorem State.latchClear_ackPulse (s : State) : s.latchClear.ackPulse = s.ackPulse := rfl
@[simp] theorem State.latchClear_clrPend (s : State) : s.latchClear.clrPend = true := rfl
@[simp] theorem State.latchClear_reqExt (s : State) : s.latchClear.reqExt = s.reqExt := rfl
@[simp] theorem State.latchClear_snap (s : State) : s.latchClear.snap = s.snap := rfl
@[simp] theorem State.latchClear_txBusy (s : State) : s.latchClear.txBusy = s.txBusy := rfl
@[simp] theorem State.latchClear_txByte (s : State) : s.latchClear.txByte = s.txByte := rfl
@[simp] theorem State.latchClear_txBit (s : State) : s.latchClear.txBit = s.txBit := rfl
@[simp] theorem State.latchClear_cellCnt (s : State) : s.latchClear.cellCnt = s.cellCnt := rfl

/-! ### `readPort` -/

@[simp] theorem State.readPort_params (s : State) (idx : Byte) : (s.readPort idx).params = s.params := rfl
@[simp] theorem State.readPort_inputs (s : State) (idx : Byte) : (s.readPort idx).inputs = s.inputs := rfl
@[simp] theorem State.readPort_rdPort (s : State) (idx : Byte) : (s.readPort idx).rdPort = readEntry s.T idx.toNat := rfl
@[simp] theorem State.readPort_T (s : State) (idx : Byte) : (s.readPort idx).T = s.T := rfl
@[simp] theorem State.readPort_phase (s : State) (idx : Byte) : (s.readPort idx).phase = s.phase := rfl
@[simp] theorem State.readPort_blinkCnt (s : State) (idx : Byte) : (s.readPort idx).blinkCnt = s.blinkCnt := rfl
@[simp] theorem State.readPort_reqBlink (s : State) (idx : Byte) : (s.readPort idx).reqBlink = s.reqBlink := rfl
@[simp] theorem State.readPort_decState (s : State) (idx : Byte) : (s.readPort idx).decState = s.decState := rfl
@[simp] theorem State.readPort_decGrp (s : State) (idx : Byte) : (s.readPort idx).decGrp = s.decGrp := rfl
@[simp] theorem State.readPort_rptBuf (s : State) (idx : Byte) : (s.readPort idx).rptBuf = s.rptBuf := rfl
@[simp] theorem State.readPort_ackPulse (s : State) (idx : Byte) : (s.readPort idx).ackPulse = s.ackPulse := rfl
@[simp] theorem State.readPort_clrPend (s : State) (idx : Byte) : (s.readPort idx).clrPend = s.clrPend := rfl
@[simp] theorem State.readPort_reqExt (s : State) (idx : Byte) : (s.readPort idx).reqExt = s.reqExt := rfl
@[simp] theorem State.readPort_snap (s : State) (idx : Byte) : (s.readPort idx).snap = s.snap := rfl
@[simp] theorem State.readPort_txBusy (s : State) (idx : Byte) : (s.readPort idx).txBusy = s.txBusy := rfl
@[simp] theorem State.readPort_txByte (s : State) (idx : Byte) : (s.readPort idx).txByte = s.txByte := rfl
@[simp] theorem State.readPort_txBit (s : State) (idx : Byte) : (s.readPort idx).txBit = s.txBit := rfl
@[simp] theorem State.readPort_cellCnt (s : State) (idx : Byte) : (s.readPort idx).cellCnt = s.cellCnt := rfl

/-! ### `captureReport` -/

@[simp] theorem State.captureReport_params (s : State) (data : Vector Byte 64) : (s.captureReport data).params = s.params := rfl
@[simp] theorem State.captureReport_inputs (s : State) (data : Vector Byte 64) : (s.captureReport data).inputs = s.inputs := rfl
@[simp] theorem State.captureReport_rdPort (s : State) (data : Vector Byte 64) : (s.captureReport data).rdPort = s.rdPort := rfl
@[simp] theorem State.captureReport_T (s : State) (data : Vector Byte 64) : (s.captureReport data).T = s.T := rfl
@[simp] theorem State.captureReport_phase (s : State) (data : Vector Byte 64) : (s.captureReport data).phase = s.phase := rfl
@[simp] theorem State.captureReport_blinkCnt (s : State) (data : Vector Byte 64) : (s.captureReport data).blinkCnt = s.blinkCnt := rfl
@[simp] theorem State.captureReport_reqBlink (s : State) (data : Vector Byte 64) : (s.captureReport data).reqBlink = s.reqBlink := rfl
@[simp] theorem State.captureReport_decState (s : State) (data : Vector Byte 64) : (s.captureReport data).decState = .run := rfl
@[simp] theorem State.captureReport_decGrp (s : State) (data : Vector Byte 64) : (s.captureReport data).decGrp = 0 := rfl
@[simp] theorem State.captureReport_rptBuf (s : State) (data : Vector Byte 64) : (s.captureReport data).rptBuf = data := rfl
@[simp] theorem State.captureReport_ackPulse (s : State) (data : Vector Byte 64) : (s.captureReport data).ackPulse = s.ackPulse := rfl
@[simp] theorem State.captureReport_clrPend (s : State) (data : Vector Byte 64) : (s.captureReport data).clrPend = s.clrPend := rfl
@[simp] theorem State.captureReport_reqExt (s : State) (data : Vector Byte 64) : (s.captureReport data).reqExt = s.reqExt := rfl
@[simp] theorem State.captureReport_snap (s : State) (data : Vector Byte 64) : (s.captureReport data).snap = s.snap := rfl
@[simp] theorem State.captureReport_txBusy (s : State) (data : Vector Byte 64) : (s.captureReport data).txBusy = s.txBusy := rfl
@[simp] theorem State.captureReport_txByte (s : State) (data : Vector Byte 64) : (s.captureReport data).txByte = s.txByte := rfl
@[simp] theorem State.captureReport_txBit (s : State) (data : Vector Byte 64) : (s.captureReport data).txBit = s.txBit := rfl
@[simp] theorem State.captureReport_cellCnt (s : State) (data : Vector Byte 64) : (s.captureReport data).cellCnt = s.cellCnt := rfl

/-! ### `dropAck` -/

@[simp] theorem State.dropAck_params (s : State) : s.dropAck.params = s.params := rfl
@[simp] theorem State.dropAck_inputs (s : State) : s.dropAck.inputs = s.inputs := rfl
@[simp] theorem State.dropAck_rdPort (s : State) : s.dropAck.rdPort = s.rdPort := rfl
@[simp] theorem State.dropAck_T (s : State) : s.dropAck.T = s.T := rfl
@[simp] theorem State.dropAck_phase (s : State) : s.dropAck.phase = s.phase := rfl
@[simp] theorem State.dropAck_blinkCnt (s : State) : s.dropAck.blinkCnt = s.blinkCnt := rfl
@[simp] theorem State.dropAck_reqBlink (s : State) : s.dropAck.reqBlink = s.reqBlink := rfl
@[simp] theorem State.dropAck_decState (s : State) : s.dropAck.decState = s.decState := rfl
@[simp] theorem State.dropAck_decGrp (s : State) : s.dropAck.decGrp = s.decGrp := rfl
@[simp] theorem State.dropAck_rptBuf (s : State) : s.dropAck.rptBuf = s.rptBuf := rfl
@[simp] theorem State.dropAck_ackPulse (s : State) : s.dropAck.ackPulse = false := rfl
@[simp] theorem State.dropAck_clrPend (s : State) : s.dropAck.clrPend = s.clrPend := rfl
@[simp] theorem State.dropAck_reqExt (s : State) : s.dropAck.reqExt = s.reqExt := rfl
@[simp] theorem State.dropAck_snap (s : State) : s.dropAck.snap = s.snap := rfl
@[simp] theorem State.dropAck_txBusy (s : State) : s.dropAck.txBusy = s.txBusy := rfl
@[simp] theorem State.dropAck_txByte (s : State) : s.dropAck.txByte = s.txByte := rfl
@[simp] theorem State.dropAck_txBit (s : State) : s.dropAck.txBit = s.txBit := rfl
@[simp] theorem State.dropAck_cellCnt (s : State) : s.dropAck.cellCnt = s.cellCnt := rfl

/-! ### `blinkTick` -/

@[simp] theorem State.blinkTick_params (s : State) : s.blinkTick.params = s.params := rfl
@[simp] theorem State.blinkTick_inputs (s : State) : s.blinkTick.inputs = s.inputs := rfl
@[simp] theorem State.blinkTick_rdPort (s : State) : s.blinkTick.rdPort = s.rdPort := rfl
@[simp] theorem State.blinkTick_T (s : State) : s.blinkTick.T = s.T := rfl
@[simp] theorem State.blinkTick_phase (s : State) : s.blinkTick.phase = !s.phase := rfl
@[simp] theorem State.blinkTick_blinkCnt (s : State) : s.blinkTick.blinkCnt = 0 := rfl
@[simp] theorem State.blinkTick_reqBlink (s : State) : s.blinkTick.reqBlink = true := rfl
@[simp] theorem State.blinkTick_decState (s : State) : s.blinkTick.decState = s.decState := rfl
@[simp] theorem State.blinkTick_decGrp (s : State) : s.blinkTick.decGrp = s.decGrp := rfl
@[simp] theorem State.blinkTick_rptBuf (s : State) : s.blinkTick.rptBuf = s.rptBuf := rfl
@[simp] theorem State.blinkTick_ackPulse (s : State) : s.blinkTick.ackPulse = s.ackPulse := rfl
@[simp] theorem State.blinkTick_clrPend (s : State) : s.blinkTick.clrPend = s.clrPend := rfl
@[simp] theorem State.blinkTick_reqExt (s : State) : s.blinkTick.reqExt = s.reqExt := rfl
@[simp] theorem State.blinkTick_snap (s : State) : s.blinkTick.snap = s.snap := rfl
@[simp] theorem State.blinkTick_txBusy (s : State) : s.blinkTick.txBusy = s.txBusy := rfl
@[simp] theorem State.blinkTick_txByte (s : State) : s.blinkTick.txByte = s.txByte := rfl
@[simp] theorem State.blinkTick_txBit (s : State) : s.blinkTick.txBit = s.txBit := rfl
@[simp] theorem State.blinkTick_cellCnt (s : State) : s.blinkTick.cellCnt = s.cellCnt := rfl

/-! ### `latchRender` -/

@[simp] theorem State.latchRender_params (s : State) : s.latchRender.params = s.params := rfl
@[simp] theorem State.latchRender_inputs (s : State) : s.latchRender.inputs = s.inputs := rfl
@[simp] theorem State.latchRender_rdPort (s : State) : s.latchRender.rdPort = s.rdPort := rfl
@[simp] theorem State.latchRender_T (s : State) : s.latchRender.T = s.T := rfl
@[simp] theorem State.latchRender_phase (s : State) : s.latchRender.phase = s.phase := rfl
@[simp] theorem State.latchRender_blinkCnt (s : State) : s.latchRender.blinkCnt = s.blinkCnt := rfl
@[simp] theorem State.latchRender_reqBlink (s : State) : s.latchRender.reqBlink = s.reqBlink := rfl
@[simp] theorem State.latchRender_decState (s : State) : s.latchRender.decState = s.decState := rfl
@[simp] theorem State.latchRender_decGrp (s : State) : s.latchRender.decGrp = s.decGrp := rfl
@[simp] theorem State.latchRender_rptBuf (s : State) : s.latchRender.rptBuf = s.rptBuf := rfl
@[simp] theorem State.latchRender_ackPulse (s : State) : s.latchRender.ackPulse = s.ackPulse := rfl
@[simp] theorem State.latchRender_clrPend (s : State) : s.latchRender.clrPend = s.clrPend := rfl
@[simp] theorem State.latchRender_reqExt (s : State) : s.latchRender.reqExt = true := rfl
@[simp] theorem State.latchRender_snap (s : State) : s.latchRender.snap = s.snap := rfl
@[simp] theorem State.latchRender_txBusy (s : State) : s.latchRender.txBusy = s.txBusy := rfl
@[simp] theorem State.latchRender_txByte (s : State) : s.latchRender.txByte = s.txByte := rfl
@[simp] theorem State.latchRender_txBit (s : State) : s.latchRender.txBit = s.txBit := rfl
@[simp] theorem State.latchRender_cellCnt (s : State) : s.latchRender.cellCnt = s.cellCnt := rfl

/-! ### `startFrame` -/

@[simp] theorem State.startFrame_params (s : State) : s.startFrame.params = s.params := rfl
@[simp] theorem State.startFrame_inputs (s : State) : s.startFrame.inputs = s.inputs := rfl
@[simp] theorem State.startFrame_rdPort (s : State) : s.startFrame.rdPort = s.rdPort := rfl
@[simp] theorem State.startFrame_T (s : State) : s.startFrame.T = s.T := rfl
@[simp] theorem State.startFrame_phase (s : State) : s.startFrame.phase = s.phase := rfl
@[simp] theorem State.startFrame_blinkCnt (s : State) : s.startFrame.blinkCnt = s.blinkCnt := rfl
@[simp] theorem State.startFrame_reqBlink (s : State) : s.startFrame.reqBlink = false := rfl
@[simp] theorem State.startFrame_decState (s : State) : s.startFrame.decState = if s.decState = .wait then .idle else s.decState := rfl
@[simp] theorem State.startFrame_decGrp (s : State) : s.startFrame.decGrp = s.decGrp := rfl
@[simp] theorem State.startFrame_rptBuf (s : State) : s.startFrame.rptBuf = s.rptBuf := rfl
@[simp] theorem State.startFrame_ackPulse (s : State) : s.startFrame.ackPulse = (s.decState == .wait) := rfl
@[simp] theorem State.startFrame_clrPend (s : State) : s.startFrame.clrPend = s.clrPend := rfl
@[simp] theorem State.startFrame_reqExt (s : State) : s.startFrame.reqExt = false := rfl
@[simp] theorem State.startFrame_snap (s : State) : s.startFrame.snap = snapOf s.T s.phase := rfl
@[simp] theorem State.startFrame_txBusy (s : State) : s.startFrame.txBusy = true := rfl
@[simp] theorem State.startFrame_txByte (s : State) : s.startFrame.txByte = 0 := rfl
@[simp] theorem State.startFrame_txBit (s : State) : s.startFrame.txBit = 0 := rfl
@[simp] theorem State.startFrame_cellCnt (s : State) : s.startFrame.cellCnt = 0 := rfl

/-! ### `finishFrame` -/

@[simp] theorem State.finishFrame_params (s : State) : s.finishFrame.params = s.params := rfl
@[simp] theorem State.finishFrame_inputs (s : State) : s.finishFrame.inputs = s.inputs := rfl
@[simp] theorem State.finishFrame_rdPort (s : State) : s.finishFrame.rdPort = s.rdPort := rfl
@[simp] theorem State.finishFrame_T (s : State) : s.finishFrame.T = s.T := rfl
@[simp] theorem State.finishFrame_phase (s : State) : s.finishFrame.phase = s.phase := rfl
@[simp] theorem State.finishFrame_blinkCnt (s : State) : s.finishFrame.blinkCnt = s.blinkCnt := rfl
@[simp] theorem State.finishFrame_reqBlink (s : State) : s.finishFrame.reqBlink = s.reqBlink := rfl
@[simp] theorem State.finishFrame_decState (s : State) : s.finishFrame.decState = s.decState := rfl
@[simp] theorem State.finishFrame_decGrp (s : State) : s.finishFrame.decGrp = s.decGrp := rfl
@[simp] theorem State.finishFrame_rptBuf (s : State) : s.finishFrame.rptBuf = s.rptBuf := rfl
@[simp] theorem State.finishFrame_ackPulse (s : State) : s.finishFrame.ackPulse = s.ackPulse := rfl
@[simp] theorem State.finishFrame_clrPend (s : State) : s.finishFrame.clrPend = s.clrPend := rfl
@[simp] theorem State.finishFrame_reqExt (s : State) : s.finishFrame.reqExt = s.reqExt := rfl
@[simp] theorem State.finishFrame_snap (s : State) : s.finishFrame.snap = s.snap := rfl
@[simp] theorem State.finishFrame_txBusy (s : State) : s.finishFrame.txBusy = false := rfl
@[simp] theorem State.finishFrame_txByte (s : State) : s.finishFrame.txByte = 0 := rfl
@[simp] theorem State.finishFrame_txBit (s : State) : s.finishFrame.txBit = 0 := rfl
@[simp] theorem State.finishFrame_cellCnt (s : State) : s.finishFrame.cellCnt = 0 := rfl

/-! ### `popInput` -/

@[simp] theorem State.popInput_params (s : State) : s.popInput.params = s.params := rfl
@[simp] theorem State.popInput_inputs (s : State) : s.popInput.inputs = s.inputs.tail := rfl
@[simp] theorem State.popInput_rdPort (s : State) : s.popInput.rdPort = s.rdPort := rfl
@[simp] theorem State.popInput_T (s : State) : s.popInput.T = s.T := rfl
@[simp] theorem State.popInput_phase (s : State) : s.popInput.phase = s.phase := rfl
@[simp] theorem State.popInput_blinkCnt (s : State) : s.popInput.blinkCnt = s.blinkCnt := rfl
@[simp] theorem State.popInput_reqBlink (s : State) : s.popInput.reqBlink = s.reqBlink := rfl
@[simp] theorem State.popInput_decState (s : State) : s.popInput.decState = s.decState := rfl
@[simp] theorem State.popInput_decGrp (s : State) : s.popInput.decGrp = s.decGrp := rfl
@[simp] theorem State.popInput_rptBuf (s : State) : s.popInput.rptBuf = s.rptBuf := rfl
@[simp] theorem State.popInput_ackPulse (s : State) : s.popInput.ackPulse = s.ackPulse := rfl
@[simp] theorem State.popInput_clrPend (s : State) : s.popInput.clrPend = s.clrPend := rfl
@[simp] theorem State.popInput_reqExt (s : State) : s.popInput.reqExt = s.reqExt := rfl
@[simp] theorem State.popInput_snap (s : State) : s.popInput.snap = s.snap := rfl
@[simp] theorem State.popInput_txBusy (s : State) : s.popInput.txBusy = s.txBusy := rfl
@[simp] theorem State.popInput_txByte (s : State) : s.popInput.txByte = s.txByte := rfl
@[simp] theorem State.popInput_txBit (s : State) : s.popInput.txBit = s.txBit := rfl
@[simp] theorem State.popInput_cellCnt (s : State) : s.popInput.cellCnt = s.cellCnt := rfl

/-! ### `withInput` -/

@[simp] theorem State.withInput_params (s : State) (i : Inputs) : (s.withInput i).params = s.params := rfl
@[simp] theorem State.withInput_inputs (s : State) (i : Inputs) : (s.withInput i).inputs = i :: s.inputs.tail := rfl
@[simp] theorem State.withInput_rdPort (s : State) (i : Inputs) : (s.withInput i).rdPort = s.rdPort := rfl
@[simp] theorem State.withInput_T (s : State) (i : Inputs) : (s.withInput i).T = s.T := rfl
@[simp] theorem State.withInput_phase (s : State) (i : Inputs) : (s.withInput i).phase = s.phase := rfl
@[simp] theorem State.withInput_blinkCnt (s : State) (i : Inputs) : (s.withInput i).blinkCnt = s.blinkCnt := rfl
@[simp] theorem State.withInput_reqBlink (s : State) (i : Inputs) : (s.withInput i).reqBlink = s.reqBlink := rfl
@[simp] theorem State.withInput_decState (s : State) (i : Inputs) : (s.withInput i).decState = s.decState := rfl
@[simp] theorem State.withInput_decGrp (s : State) (i : Inputs) : (s.withInput i).decGrp = s.decGrp := rfl
@[simp] theorem State.withInput_rptBuf (s : State) (i : Inputs) : (s.withInput i).rptBuf = s.rptBuf := rfl
@[simp] theorem State.withInput_ackPulse (s : State) (i : Inputs) : (s.withInput i).ackPulse = s.ackPulse := rfl
@[simp] theorem State.withInput_clrPend (s : State) (i : Inputs) : (s.withInput i).clrPend = s.clrPend := rfl
@[simp] theorem State.withInput_reqExt (s : State) (i : Inputs) : (s.withInput i).reqExt = s.reqExt := rfl
@[simp] theorem State.withInput_snap (s : State) (i : Inputs) : (s.withInput i).snap = s.snap := rfl
@[simp] theorem State.withInput_txBusy (s : State) (i : Inputs) : (s.withInput i).txBusy = s.txBusy := rfl
@[simp] theorem State.withInput_txByte (s : State) (i : Inputs) : (s.withInput i).txByte = s.txByte := rfl
@[simp] theorem State.withInput_txBit (s : State) (i : Inputs) : (s.withInput i).txBit = s.txBit := rfl
@[simp] theorem State.withInput_cellCnt (s : State) (i : Inputs) : (s.withInput i).cellCnt = s.cellCnt := rfl

/-! ### `resetRegisters` -/

@[simp] theorem State.resetRegisters_params (s : State) : s.resetRegisters.params = s.params := rfl
@[simp] theorem State.resetRegisters_inputs (s : State) : s.resetRegisters.inputs = s.inputs := rfl
@[simp] theorem State.resetRegisters_rdPort (s : State) : s.resetRegisters.rdPort = s.rdPort := rfl
@[simp] theorem State.resetRegisters_T (s : State) : s.resetRegisters.T = Vector.replicate 32 offEntry := rfl
@[simp] theorem State.resetRegisters_phase (s : State) : s.resetRegisters.phase = true := rfl
@[simp] theorem State.resetRegisters_blinkCnt (s : State) : s.resetRegisters.blinkCnt = 0 := rfl
@[simp] theorem State.resetRegisters_reqBlink (s : State) : s.resetRegisters.reqBlink = false := rfl
@[simp] theorem State.resetRegisters_decState (s : State) : s.resetRegisters.decState = .idle := rfl
@[simp] theorem State.resetRegisters_decGrp (s : State) : s.resetRegisters.decGrp = 0 := rfl
@[simp] theorem State.resetRegisters_rptBuf (s : State) : s.resetRegisters.rptBuf = Vector.replicate 64 0x00#8 := rfl
@[simp] theorem State.resetRegisters_ackPulse (s : State) : s.resetRegisters.ackPulse = false := rfl
@[simp] theorem State.resetRegisters_clrPend (s : State) : s.resetRegisters.clrPend = false := rfl
@[simp] theorem State.resetRegisters_reqExt (s : State) : s.resetRegisters.reqExt = false := rfl
@[simp] theorem State.resetRegisters_snap (s : State) : s.resetRegisters.snap = Vector.replicate 32 0#24 := rfl
@[simp] theorem State.resetRegisters_txBusy (s : State) : s.resetRegisters.txBusy = false := rfl
@[simp] theorem State.resetRegisters_txByte (s : State) : s.resetRegisters.txByte = 0 := rfl
@[simp] theorem State.resetRegisters_txBit (s : State) : s.resetRegisters.txBit = 0 := rfl
@[simp] theorem State.resetRegisters_cellCnt (s : State) : s.resetRegisters.cellCnt = 0 := rfl

/-! ### `resetOf` -/

@[simp] theorem State.resetOf_params (p : Config.Params) : (State.resetOf p).params = p := rfl
@[simp] theorem State.resetOf_inputs (p : Config.Params) : (State.resetOf p).inputs = [] := rfl
@[simp] theorem State.resetOf_rdPort (p : Config.Params) : (State.resetOf p).rdPort = offEntry := rfl
@[simp] theorem State.resetOf_T (p : Config.Params) : (State.resetOf p).T = Vector.replicate 32 offEntry := rfl
@[simp] theorem State.resetOf_phase (p : Config.Params) : (State.resetOf p).phase = true := rfl
@[simp] theorem State.resetOf_blinkCnt (p : Config.Params) : (State.resetOf p).blinkCnt = 0 := rfl
@[simp] theorem State.resetOf_reqBlink (p : Config.Params) : (State.resetOf p).reqBlink = false := rfl
@[simp] theorem State.resetOf_decState (p : Config.Params) : (State.resetOf p).decState = .idle := rfl
@[simp] theorem State.resetOf_decGrp (p : Config.Params) : (State.resetOf p).decGrp = 0 := rfl
@[simp] theorem State.resetOf_rptBuf (p : Config.Params) : (State.resetOf p).rptBuf = Vector.replicate 64 0x00#8 := rfl
@[simp] theorem State.resetOf_ackPulse (p : Config.Params) : (State.resetOf p).ackPulse = false := rfl
@[simp] theorem State.resetOf_clrPend (p : Config.Params) : (State.resetOf p).clrPend = false := rfl
@[simp] theorem State.resetOf_reqExt (p : Config.Params) : (State.resetOf p).reqExt = false := rfl
@[simp] theorem State.resetOf_snap (p : Config.Params) : (State.resetOf p).snap = Vector.replicate 32 0#24 := rfl
@[simp] theorem State.resetOf_txBusy (p : Config.Params) : (State.resetOf p).txBusy = false := rfl
@[simp] theorem State.resetOf_txByte (p : Config.Params) : (State.resetOf p).txByte = 0 := rfl
@[simp] theorem State.resetOf_txBit (p : Config.Params) : (State.resetOf p).txBit = 0 := rfl
@[simp] theorem State.resetOf_cellCnt (p : Config.Params) : (State.resetOf p).cellCnt = 0 := rfl

/-! ### Updates with a test of their own: the fields they leave alone -/

@[simp] theorem State.countBlink_params (s : State) : s.countBlink.params = s.params := by
  unfold State.countBlink; split <;> rfl
@[simp] theorem State.countBlink_inputs (s : State) : s.countBlink.inputs = s.inputs := by
  unfold State.countBlink; split <;> rfl
@[simp] theorem State.countBlink_rdPort (s : State) : s.countBlink.rdPort = s.rdPort := by
  unfold State.countBlink; split <;> rfl
@[simp] theorem State.countBlink_T (s : State) : s.countBlink.T = s.T := by
  unfold State.countBlink; split <;> rfl
@[simp] theorem State.countBlink_phase (s : State) : s.countBlink.phase = s.phase := by
  unfold State.countBlink; split <;> rfl
@[simp] theorem State.countBlink_reqBlink (s : State) : s.countBlink.reqBlink = s.reqBlink := by
  unfold State.countBlink; split <;> rfl
@[simp] theorem State.countBlink_decState (s : State) : s.countBlink.decState = s.decState := by
  unfold State.countBlink; split <;> rfl
@[simp] theorem State.countBlink_decGrp (s : State) : s.countBlink.decGrp = s.decGrp := by
  unfold State.countBlink; split <;> rfl
@[simp] theorem State.countBlink_rptBuf (s : State) : s.countBlink.rptBuf = s.rptBuf := by
  unfold State.countBlink; split <;> rfl
@[simp] theorem State.countBlink_ackPulse (s : State) : s.countBlink.ackPulse = s.ackPulse := by
  unfold State.countBlink; split <;> rfl
@[simp] theorem State.countBlink_clrPend (s : State) : s.countBlink.clrPend = s.clrPend := by
  unfold State.countBlink; split <;> rfl
@[simp] theorem State.countBlink_reqExt (s : State) : s.countBlink.reqExt = s.reqExt := by
  unfold State.countBlink; split <;> rfl
@[simp] theorem State.countBlink_snap (s : State) : s.countBlink.snap = s.snap := by
  unfold State.countBlink; split <;> rfl
@[simp] theorem State.countBlink_txBusy (s : State) : s.countBlink.txBusy = s.txBusy := by
  unfold State.countBlink; split <;> rfl
@[simp] theorem State.countBlink_txByte (s : State) : s.countBlink.txByte = s.txByte := by
  unfold State.countBlink; split <;> rfl
@[simp] theorem State.countBlink_txBit (s : State) : s.countBlink.txBit = s.txBit := by
  unfold State.countBlink; split <;> rfl
@[simp] theorem State.countBlink_cellCnt (s : State) : s.countBlink.cellCnt = s.cellCnt := by
  unfold State.countBlink; split <;> rfl

@[simp] theorem State.tableWrite_params (s : State) (idx : Nat) (e : Entry) : (s.tableWrite idx e).params = s.params := by
  unfold State.tableWrite; split <;> rfl
@[simp] theorem State.tableWrite_inputs (s : State) (idx : Nat) (e : Entry) : (s.tableWrite idx e).inputs = s.inputs := by
  unfold State.tableWrite; split <;> rfl
@[simp] theorem State.tableWrite_rdPort (s : State) (idx : Nat) (e : Entry) : (s.tableWrite idx e).rdPort = s.rdPort := by
  unfold State.tableWrite; split <;> rfl
@[simp] theorem State.tableWrite_phase (s : State) (idx : Nat) (e : Entry) : (s.tableWrite idx e).phase = s.phase := by
  unfold State.tableWrite; split <;> rfl
@[simp] theorem State.tableWrite_blinkCnt (s : State) (idx : Nat) (e : Entry) : (s.tableWrite idx e).blinkCnt = s.blinkCnt := by
  unfold State.tableWrite; split <;> rfl
@[simp] theorem State.tableWrite_reqBlink (s : State) (idx : Nat) (e : Entry) : (s.tableWrite idx e).reqBlink = s.reqBlink := by
  unfold State.tableWrite; split <;> rfl
@[simp] theorem State.tableWrite_decState (s : State) (idx : Nat) (e : Entry) : (s.tableWrite idx e).decState = s.decState := by
  unfold State.tableWrite; split <;> rfl
@[simp] theorem State.tableWrite_decGrp (s : State) (idx : Nat) (e : Entry) : (s.tableWrite idx e).decGrp = s.decGrp := by
  unfold State.tableWrite; split <;> rfl
@[simp] theorem State.tableWrite_rptBuf (s : State) (idx : Nat) (e : Entry) : (s.tableWrite idx e).rptBuf = s.rptBuf := by
  unfold State.tableWrite; split <;> rfl
@[simp] theorem State.tableWrite_ackPulse (s : State) (idx : Nat) (e : Entry) : (s.tableWrite idx e).ackPulse = s.ackPulse := by
  unfold State.tableWrite; split <;> rfl
@[simp] theorem State.tableWrite_clrPend (s : State) (idx : Nat) (e : Entry) : (s.tableWrite idx e).clrPend = s.clrPend := by
  unfold State.tableWrite; split <;> rfl
@[simp] theorem State.tableWrite_reqExt (s : State) (idx : Nat) (e : Entry) : (s.tableWrite idx e).reqExt = s.reqExt := by
  unfold State.tableWrite; split <;> rfl
@[simp] theorem State.tableWrite_snap (s : State) (idx : Nat) (e : Entry) : (s.tableWrite idx e).snap = s.snap := by
  unfold State.tableWrite; split <;> rfl
@[simp] theorem State.tableWrite_txBusy (s : State) (idx : Nat) (e : Entry) : (s.tableWrite idx e).txBusy = s.txBusy := by
  unfold State.tableWrite; split <;> rfl
@[simp] theorem State.tableWrite_txByte (s : State) (idx : Nat) (e : Entry) : (s.tableWrite idx e).txByte = s.txByte := by
  unfold State.tableWrite; split <;> rfl
@[simp] theorem State.tableWrite_txBit (s : State) (idx : Nat) (e : Entry) : (s.tableWrite idx e).txBit = s.txBit := by
  unfold State.tableWrite; split <;> rfl
@[simp] theorem State.tableWrite_cellCnt (s : State) (idx : Nat) (e : Entry) : (s.tableWrite idx e).cellCnt = s.cellCnt := by
  unfold State.tableWrite; split <;> rfl

@[simp] theorem State.advanceGroup_params (s : State) : s.advanceGroup.params = s.params := by
  unfold State.advanceGroup; split <;> rfl
@[simp] theorem State.advanceGroup_inputs (s : State) : s.advanceGroup.inputs = s.inputs := by
  unfold State.advanceGroup; split <;> rfl
@[simp] theorem State.advanceGroup_rdPort (s : State) : s.advanceGroup.rdPort = s.rdPort := by
  unfold State.advanceGroup; split <;> rfl
@[simp] theorem State.advanceGroup_T (s : State) : s.advanceGroup.T = s.T := by
  unfold State.advanceGroup; split <;> rfl
@[simp] theorem State.advanceGroup_phase (s : State) : s.advanceGroup.phase = s.phase := by
  unfold State.advanceGroup; split <;> rfl
@[simp] theorem State.advanceGroup_blinkCnt (s : State) : s.advanceGroup.blinkCnt = s.blinkCnt := by
  unfold State.advanceGroup; split <;> rfl
@[simp] theorem State.advanceGroup_reqBlink (s : State) : s.advanceGroup.reqBlink = s.reqBlink := by
  unfold State.advanceGroup; split <;> rfl
@[simp] theorem State.advanceGroup_rptBuf (s : State) : s.advanceGroup.rptBuf = s.rptBuf := by
  unfold State.advanceGroup; split <;> rfl
@[simp] theorem State.advanceGroup_ackPulse (s : State) : s.advanceGroup.ackPulse = s.ackPulse := by
  unfold State.advanceGroup; split <;> rfl
@[simp] theorem State.advanceGroup_clrPend (s : State) : s.advanceGroup.clrPend = s.clrPend := by
  unfold State.advanceGroup; split <;> rfl
@[simp] theorem State.advanceGroup_reqExt (s : State) : s.advanceGroup.reqExt = s.reqExt := by
  unfold State.advanceGroup; split <;> rfl
@[simp] theorem State.advanceGroup_snap (s : State) : s.advanceGroup.snap = s.snap := by
  unfold State.advanceGroup; split <;> rfl
@[simp] theorem State.advanceGroup_txBusy (s : State) : s.advanceGroup.txBusy = s.txBusy := by
  unfold State.advanceGroup; split <;> rfl
@[simp] theorem State.advanceGroup_txByte (s : State) : s.advanceGroup.txByte = s.txByte := by
  unfold State.advanceGroup; split <;> rfl
@[simp] theorem State.advanceGroup_txBit (s : State) : s.advanceGroup.txBit = s.txBit := by
  unfold State.advanceGroup; split <;> rfl
@[simp] theorem State.advanceGroup_cellCnt (s : State) : s.advanceGroup.cellCnt = s.cellCnt := by
  unfold State.advanceGroup; split <;> rfl

@[simp] theorem State.shiftLine_params (s : State) : s.shiftLine.params = s.params := by
  unfold State.shiftLine; split <;> (try split) <;> (try split) <;> rfl
@[simp] theorem State.shiftLine_inputs (s : State) : s.shiftLine.inputs = s.inputs := by
  unfold State.shiftLine; split <;> (try split) <;> (try split) <;> rfl
@[simp] theorem State.shiftLine_rdPort (s : State) : s.shiftLine.rdPort = s.rdPort := by
  unfold State.shiftLine; split <;> (try split) <;> (try split) <;> rfl
@[simp] theorem State.shiftLine_T (s : State) : s.shiftLine.T = s.T := by
  unfold State.shiftLine; split <;> (try split) <;> (try split) <;> rfl
@[simp] theorem State.shiftLine_phase (s : State) : s.shiftLine.phase = s.phase := by
  unfold State.shiftLine; split <;> (try split) <;> (try split) <;> rfl
@[simp] theorem State.shiftLine_blinkCnt (s : State) : s.shiftLine.blinkCnt = s.blinkCnt := by
  unfold State.shiftLine; split <;> (try split) <;> (try split) <;> rfl
@[simp] theorem State.shiftLine_reqBlink (s : State) : s.shiftLine.reqBlink = s.reqBlink := by
  unfold State.shiftLine; split <;> (try split) <;> (try split) <;> rfl
@[simp] theorem State.shiftLine_decState (s : State) : s.shiftLine.decState = s.decState := by
  unfold State.shiftLine; split <;> (try split) <;> (try split) <;> rfl
@[simp] theorem State.shiftLine_decGrp (s : State) : s.shiftLine.decGrp = s.decGrp := by
  unfold State.shiftLine; split <;> (try split) <;> (try split) <;> rfl
@[simp] theorem State.shiftLine_rptBuf (s : State) : s.shiftLine.rptBuf = s.rptBuf := by
  unfold State.shiftLine; split <;> (try split) <;> (try split) <;> rfl
@[simp] theorem State.shiftLine_ackPulse (s : State) : s.shiftLine.ackPulse = s.ackPulse := by
  unfold State.shiftLine; split <;> (try split) <;> (try split) <;> rfl
@[simp] theorem State.shiftLine_clrPend (s : State) : s.shiftLine.clrPend = s.clrPend := by
  unfold State.shiftLine; split <;> (try split) <;> (try split) <;> rfl
@[simp] theorem State.shiftLine_reqExt (s : State) : s.shiftLine.reqExt = s.reqExt := by
  unfold State.shiftLine; split <;> (try split) <;> (try split) <;> rfl
@[simp] theorem State.shiftLine_snap (s : State) : s.shiftLine.snap = s.snap := by
  unfold State.shiftLine; split <;> (try split) <;> (try split) <;> rfl

/-- The divider counts up to its last value (spec/42_blink_timer.md R171). -/
@[simp] theorem State.countBlink_blinkCnt (s : State) : s.countBlink.blinkCnt =
    if s.blinkCnt + 1 < s.params.blinkDiv then s.blinkCnt + 1 else s.blinkCnt := by
  unfold State.countBlink; split <;> rfl

/-- Short of a tick the divider is below its last value (R170). -/
theorem State.blinkCnt_succ_lt (s : State) (h : s.tickDue = false) :
    s.blinkCnt + 1 < s.params.blinkDiv := by
  have := s.blinkCnt_lt
  simp only [State.tickDue, beq_eq_false_iff_ne] at h
  omega

end Sys2Proof.Machine
end

