-- ==== Sys2Proof/Laws/Ops.lean ====
section
/-!
SUPPORT. One lemma per shared operation that says everything it can do; later proofs cite these and
do not unfold the operation.
-/

namespace Sys2Proof

@[simp] theorem tabulate_getElem {α : Type} (n : Nat) (f : Fin n → α) (k : Nat) (h : k < n) :
    (tabulate n f)[k] = f ⟨k, h⟩ := by
  simp [tabulate]

theorem tabulate_id {α : Type} {n : Nat} (v : Vector α n) : tabulate n (fun k => v[k]) = v := by
  ext k hk; simp

/-! ### Header fields -/

@[simp] theorem headerIdx_mkHeader (x : Bool) (ps : PsCode) (idx : LedIdx) :
    headerIdx (mkHeader x ps idx) = idx := by
  revert idx; revert ps; revert x; decide

@[simp] theorem headerPs_mkHeader (x : Bool) (ps : PsCode) (idx : LedIdx) :
    headerPs (mkHeader x ps idx) = ps := by
  revert idx; revert ps; revert x; decide

@[simp] theorem headerX_mkHeader (x : Bool) (ps : PsCode) (idx : LedIdx) :
    headerX (mkHeader x ps idx) = x := by
  revert idx; revert ps; revert x; decide

/-- A header is its three fields. -/
theorem mkHeader_fields (h : Byte) : mkHeader (headerX h) (headerPs h) (headerIdx h) = h := by
  revert h; decide

/-- Only the fields 0, 0, 0 spell header 0x00 (spec/30_encoding.md R96). -/
theorem mkHeader_eq_zero (x : Bool) (ps : PsCode) (idx : LedIdx) :
    mkHeader x ps idx = 0x00#8 ↔ x = false ∧ ps = 0#2 ∧ idx = 0#5 := by
  revert idx; revert ps; revert x; decide

/-! ### Groups of a report -/

/-- The group just placed is the one read back (spec/20_memory.md R61). -/
theorem groupAt_setGroupAt (buf : Vector Byte 64) (i : Fin 16) (w : GroupWord) :
    groupAt (setGroupAt buf i w) i = w := by
  obtain ⟨h, r, g, b⟩ := w
  simp [groupAt, setGroupAt]

theorem bytesValue_lt (l : List Byte) : bytesValue l < 256 ^ l.length := by
  induction l with
  | nil => simp [bytesValue]
  | cons x xs ih =>
    simp only [bytesValue, List.length_cons, Nat.pow_succ]
    have := x.isLt
    omega

/-- Byte `k` of the number is the list's `k`-th byte (spec/20_memory.md R64). -/
theorem bytesValue_digit (l : List Byte) (k : Nat) :
    bytesValue l / 256 ^ k % 256 = (l.getD k 0#8).toNat := by
  induction l generalizing k with
  | nil => simp [bytesValue]
  | cons x xs ih =>
    have hx := x.isLt
    cases k with
    | zero => simp [bytesValue]; omega
    | succ k =>
      have hdiv : (x.toNat + 256 * bytesValue xs) / 256 = bytesValue xs := by omega
      rw [bytesValue, Nat.pow_succ', ← Nat.div_div_eq_div_mul, hdiv, ih]
      simp

end Sys2Proof

namespace Sys2Proof.Machine

/-! ### The table -/

theorem readEntry_of_lt (T : Vector Entry 32) (k : Nat) (h : k < 32) : readEntry T k = T[k] := by
  simp [readEntry, h]

theorem readEntry_of_ge (T : Vector Entry 32) (k : Nat) (h : 32 ≤ k) : readEntry T k = offEntry := by
  simp [readEntry, Nat.not_lt.mpr h]

/-- Two tables that read alike at every index are equal. -/
theorem eq_of_readEntry (T U : Vector Entry 32) (h : ∀ k, readEntry T k = readEntry U k) : T = U := by
  ext k hk
  simpa [readEntry_of_lt, hk] using h k

@[simp] theorem readEntry_replicate (k : Nat) :
    readEntry (Vector.replicate 32 offEntry) k = offEntry := by
  by_cases h : k < 32 <;> simp [readEntry, h]

/-- `TableWrite` sets the one entry in range and no other (spec/41_table_port.md R150, R151). -/
theorem readEntry_tableWrite (s : State) (idx : Nat) (e : Entry) (k : Nat) :
    readEntry (s.tableWrite idx e).T k = if idx < 32 ∧ k = idx then e else readEntry s.T k := by
  unfold State.tableWrite
  by_cases hi : idx < 32
  · by_cases hk : k < 32
    · by_cases hki : k = idx
      · subst hki; simp [readEntry, hi]
      · simp [readEntry, hi, hk, hki, Ne.symm hki]
    · have : k ≠ idx := by omega
      simp [readEntry, hi, hk, this]
  · simp [hi]

/-- A 5-bit index is always in range, so the write always lands (R151). -/
theorem readEntry_tableWrite_idx (s : State) (idx : LedIdx) (e : Entry) (k : Nat) :
    readEntry (s.tableWrite idx.toNat e).T k = if k = idx.toNat then e else readEntry s.T k := by
  rw [readEntry_tableWrite]
  simp [idx.isLt]

@[simp] theorem snapOf_getElem (T : Vector Entry 32) (ph : Bool) (k : Nat) (h : k < 32) :
    (snapOf T ph)[k] = grb (eff T[k] ph) := by
  simp [snapOf]

/-! ### The waveform -/

/-- The waveform byte of a data position is the expansion of its bit
(spec/43_waveform_encoder.md R183). -/
theorem waveByte_data (snap : Vector GrbWord 32) (k j : Nat) (hk : k < 32) (hj : j < 24) :
    waveByte snap (4 + 24 * k + j) = enc (snap[k].getLsbD (23 - j)) := by
  have h0 : ¬4 + 24 * k + j < 4 := by omega
  have h1 : 4 + 24 * k + j < 4 + 32 * 24 := by omega
  have h2 : (4 + 24 * k + j - 4) / 24 = k := by omega
  have h3 : (4 + 24 * k + j - 4) % 24 = j := by omega
  simp only [waveByte, Config.PRE, Config.N, h0, h1, h3, if_false, dite_true]
  congr 2
  simp only [h2]

/-- Outside the data region the waveform is idle (R184). -/
theorem waveByte_idle (snap : Vector GrbWord 32) (p : Nat) (h : p < 4 ∨ 772 ≤ p) :
    waveByte snap p = 0x00#8 := by
  unfold waveByte
  by_cases hp : p < 4
  · simp [hp]
  · have : ¬p < 4 + 32 * 24 := by omega
    simp [hp, this]

/-! ### Microstate and serializer -/

/-- What the microstate does in a RUN cycle (spec/40_command_decoder.md R123). -/
theorem advanceGroup_spec (s : State) :
    (s.decGrp.val < 15 ∧ s.advanceGroup.decGrp.val = s.decGrp.val + 1 ∧
      s.advanceGroup.decState = s.decState) ∨
    (s.decGrp.val = 15 ∧ s.advanceGroup.decGrp = s.decGrp ∧ s.advanceGroup.decState = .wait) := by
  unfold State.advanceGroup
  by_cases h : s.decGrp.val < 15
  · simp [h]
  · have := s.decGrp.isLt
    simp only [h, dite_false, and_self, and_true, false_and, false_or]
    omega

/-- What the serializer does in a busy cycle, branch by branch
(spec/44_frame_transmitter.md R206). -/
theorem shiftLine_spec (s : State) :
    (s.cellCnt < s.params.cellDiv - 1 ∧ ∃ h : s.cellCnt + 1 < s.params.cellDiv,
      s.shiftLine = { s with cellCnt := s.cellCnt + 1, cellCnt_lt := h }) ∨
    (¬s.cellCnt < s.params.cellDiv - 1 ∧ ∃ h : s.txBit.val < 7,
      s.shiftLine = { s with
        cellCnt := 0, cellCnt_lt := s.params.cellDiv_pos
        txBit := ⟨s.txBit.val + 1, by omega⟩ }) ∨
    (¬s.cellCnt < s.params.cellDiv - 1 ∧ s.txBit.val = 7 ∧ ∃ h : s.txByte.val < 1021,
      s.shiftLine = { s with
        cellCnt := 0, cellCnt_lt := s.params.cellDiv_pos
        txBit := 0, txByte := ⟨s.txByte.val + 1, by omega⟩ }) ∨
    (¬s.cellCnt < s.params.cellDiv - 1 ∧ s.txBit.val = 7 ∧ s.txByte.val = 1021 ∧
      s.shiftLine = s.finishFrame) := by
  have hb := s.txBit.isLt
  have hB := s.txByte.isLt
  unfold State.shiftLine
  by_cases h1 : s.cellCnt < s.params.cellDiv - 1
  · simp [h1]; omega
  · by_cases h2 : s.txBit.val < 7
    · simp [h1, h2]
    · by_cases h3 : s.txByte.val < 1021
      · simp [h1, h2, h3]; omega
      · simp [h1, h2, h3]; omega

/-! ### Composition -/

@[simp] theorem andThen_next (s : State) (k : State → Host.Outcome State Fault Refusal) :
    andThen (.next s) k = k s := rfl

/-- A sequence answers next exactly if both parts do. -/
theorem andThen_eq_next (o : Host.Outcome State Fault Refusal)
    (k : State → Host.Outcome State Fault Refusal) (t : State) :
    andThen o k = .next t ↔ ∃ s, o = .next s ∧ k s = .next t := by
  cases o <;> simp [andThen]

@[simp] theorem execAll_nil (s : State) : execAll [] s = .next s := rfl

@[simp] theorem execAll_cons (i : Instr) (is : List Instr) (s : State) :
    execAll (i :: is) s = andThen (exec i s) (execAll is) := rfl

/-- Lists of operations run one after the other. -/
theorem execAll_append (is js : List Instr) (s : State) :
    execAll (is ++ js) s = andThen (execAll is s) (execAll js) := by
  induction is generalizing s with
  | nil => rfl
  | cons i is ih =>
    rw [List.cons_append, execAll_cons, execAll_cons]
    cases exec i s with
    | next u => exact ih u
    | fault r => rfl
    | refused r => rfl

end Sys2Proof.Machine
end

