-- ==== Sys2Proof/Laws/Cycle.lean ====
section
/-!
SUPPORT. What one cycle does, said once: the state after the readers, after the background rules and
after the writers, and `step_run`, which later proofs cite in place of unfolding the step.
-/

namespace Sys2Proof.Machine

/-! ### The selecting conditions -/

theorem doneDue_iff (s : State) : s.doneDue = true ↔ LastFrameCycle s := by
  simp [State.doneDue, LastFrameCycle, Fin.ext_iff, and_assoc]

theorem launchDue_iff (s : State) : s.launchDue = true ↔ LaunchEnabled s := by
  simp [State.launchDue, LaunchEnabled, State.anyReq, and_assoc, or_assoc]

theorem tickDue_iff (s : State) : s.tickDue = true ↔ s.blinkCnt = s.params.blinkDiv - 1 := by
  simp [State.tickDue]

/-- A launch needs an idle transmitter and a decoder outside RUN
(spec/44_frame_transmitter.md R202). -/
theorem launchDue_excludes (s : State) (h : s.launchDue = true) :
    s.txBusy = false ∧ s.decState ≠ .run := by
  have hl := (launchDue_iff s).1 h
  exact ⟨hl.1, hl.2.1⟩

/-! ### Readers -/

/-- The state after the cycle's readers. -/
def afterReaders (s : State) : State :=
  let u := s.dropAck.readPort s.input.rdIdx
  if s.input.rst then u
  else if s.launchDue then u.startFrame
  else if s.txBusy then u.shiftLine
  else u

/-- After a shift that completes the frame, `DONE` has nothing left to do: both rules write the same
values (R206, R207). -/
theorem exec_done_shiftLine (u : State) (h : u.doneDue = true) :
    exec .done u.shiftLine = .next u.shiftLine := by
  obtain ⟨-, hcell, hbit, hbyte⟩ := (doneDue_iff u).1 h
  rcases shiftLine_spec u with ⟨a, _⟩ | ⟨_, b, _⟩ | ⟨_, _, c, _⟩ | ⟨_, _, _, e⟩
  · omega
  · omega
  · omega
  · rw [e]; simp [exec, execDone, State.doneDue]

theorem readers_run (s : State) : execAll s.readers s.dropAck = .next (afterReaders s) := by
  unfold State.readers afterReaders
  cases hr : s.input.rst
  · simp only [execAll_cons, exec, execGet, andThen_next, Bool.false_eq_true, if_false]
    set u := s.dropAck.readPort s.input.rdIdx
    have e1 : u.launchDue = s.launchDue := rfl
    have e2 : u.txBusy = s.txBusy := rfl
    have e3 : u.doneDue = s.doneDue := rfl
    cases hb : s.txBusy
    · have hd : s.doneDue = false := by simp [State.doneDue, hb]
      cases hl : s.launchDue
      · simp [hd]
      · simp [hd, exec, execLaunch, e1, hl]
    · have hl : s.launchDue = false := by simp [State.launchDue, hb]
      cases hd : s.doneDue
      · simp [hl, exec, execShift, e2, hb]
      · have hdone := exec_done_shiftLine u (by rw [e3, hd])
        simp only [exec] at hdone
        simp [hl, exec, execShift, e2, hb, hdone]
  · simp [exec, execGet]

/-- The readers leave the microstate, but that a launch ends WAIT. -/
theorem afterReaders_decState (s : State) (h : s.input.rst = false) :
    (afterReaders s).decState = s.decState ∨
      (s.decState ≠ .run ∧ (s.decState = .idle → (afterReaders s).decState = .idle)) := by
  unfold afterReaders
  simp only [h]
  cases hl : s.launchDue
  · left; cases hb : s.txBusy <;> simp
  · right
    exact ⟨(launchDue_excludes s hl).2, fun hi => by simp [hi]⟩

/-! ### Writers -/

/-- One RUN cycle of the group that the cycle starting in `s` selects, applied to `t`. -/
def groupStep (s t : State) : State :=
  if s.muxGroup.header = 0x00#8 then t.advanceGroup
  else (t.tableWrite (headerIdx s.muxGroup.header).toNat (groupEntry s)).advanceGroup

theorem psCode_cases (p : PsCode) : p = 0#2 ∨ p = 1#2 ∨ p = 2#2 ∨ p = 3#2 := by
  revert p; decide

/-- The group under the multiplexer stores its colour bytes and `header[6:5]` at `header[4:0]`, or is
`NOP` (spec/40_command_decoder.md R124 to R128). -/
theorem exec_groupInstr (s t : State) (h : t.decState = .run) :
    exec s.groupInstr t = .next (groupStep s t) := by
  unfold State.groupInstr decodeGroup groupStep groupEntry
  by_cases h0 : s.muxGroup.header = 0x00#8
  · simp [h0, exec, execNop, h]
  · rcases psCode_cases (headerPs s.muxGroup.header) with e | e | e | e <;>
      simp [h0, e, exec, execSetOff, execSetOn, execSetBlink, execSetPs3, storeGroup, h]

/-- The state after the cycle's writers, run on `t`. -/
def afterWriters (s t : State) : State :=
  if s.input.rst then t.resetRegisters
  else
    let a := if s.decState = .run then groupStep s t else t
    let b := if s.input.rptValid ∧ s.decState = .idle then a.captureReport s.input.rptData else a
    let c := if s.tickDue then b.blinkTick else b
    let d := if s.input.clr then c.latchClear else c
    if s.input.renderReq then d.latchRender else d

theorem writers_run (s t : State)
    (hdec : t.decState = s.decState ∨
      (s.decState ≠ .run ∧ (s.decState = .idle → t.decState = .idle)))
    (htick : s.tickDue = true → t.tickDue = true) :
    execAll s.writers t = .next (afterWriters s t) := by
  unfold State.writers afterWriters
  cases hr : s.input.rst
  · simp only [Bool.false_eq_true, if_false]
    rw [execAll_append, execAll_append, execAll_append, execAll_append]
    have hgroup : execAll (if s.decState = .run then [s.groupInstr] else []) t =
        .next (if s.decState = .run then groupStep s t else t) := by
      by_cases h : s.decState = .run
      · have ht : t.decState = .run := by
          rcases hdec with e | ⟨e, -⟩
          · rw [e, h]
          · exact absurd h e
        rw [if_pos h, if_pos h]
        simp [exec_groupInstr s t ht]
      · simp [h]
    rw [hgroup, andThen_next]
    set a := (if s.decState = .run then groupStep s t else t) with ha
    have hat : s.tickDue = true → a.tickDue = true := by
      intro h
      have := htick h
      rw [ha]; unfold groupStep; split
      · split <;> simpa [State.tickDue] using this
      · exact this
    have hai : s.decState = .idle → a.decState = .idle := by
      intro h
      rw [ha, if_neg (by simp [h])]
      rcases hdec with e | ⟨-, e⟩
      · rw [e, h]
      · exact e h
    have hreport : execAll (if (s.input.rptValid && s.decState == .idle) = true then
          [.report s.input.rptData] else []) a =
        .next (if s.input.rptValid ∧ s.decState = .idle then a.captureReport s.input.rptData
          else a) := by
      by_cases h : s.input.rptValid = true ∧ s.decState = .idle
      · simp [h, exec, execReport, hai h.2]
      · simp [h]
    rw [hreport, andThen_next]
    set b := (if s.input.rptValid ∧ s.decState = .idle then a.captureReport s.input.rptData else a)
      with hb
    have hbt : s.tickDue = true → b.tickDue = true := by
      intro h
      rw [hb]; split
      · simpa [State.tickDue] using hat h
      · exact hat h
    cases ht : s.tickDue <;> cases hc : s.input.clr <;> cases hq : s.input.renderReq <;>
      simp_all [exec, execTick, execClr, execRender]
  · simp [exec, execRst]

/-! ### The step -/

/-- The state the writers start from. -/
def beforeWriters (s : State) : State := s.background (afterReaders s)

theorem writers_run_here (s : State) :
    execAll s.writers (beforeWriters s) = .next (afterWriters s (beforeWriters s)) := by
  apply writers_run
  · cases h : s.input.rst
    · have := afterReaders_decState s h
      unfold beforeWriters State.background; simp only [h]
      cases hc : s.clearDue <;> cases ht : s.tickDue <;> simpa using this
    · unfold beforeWriters State.background afterReaders; simp [h]
  · intro ht
    cases h : s.input.rst
    · unfold beforeWriters State.background afterReaders; simp only [h, ht]
      cases hc : s.clearDue <;> cases hl : s.launchDue <;> cases hb : s.txBusy <;>
        simpa [State.tickDue] using ht
    · unfold beforeWriters State.background afterReaders; simpa [State.tickDue, h] using ht

/-- What the step does: the one state it answers, from the named register updates. -/
theorem step_run (s : State) : step s = .next (afterWriters s (beforeWriters s)).popInput := by
  unfold step cycle
  rw [readers_run, andThen_next]
  exact (congrArg (fun o => andThen o _) (writers_run_here s)).trans rfl

end Sys2Proof.Machine
end

