-- ==== Sys2Proof/Laws/PerInstr.lean ====
section
/-!
SUPPORT. Statements made instruction by instruction. Family `Carrier`: a command-group operation is
encoded by a group and by nothing else, and no other operation is encoded by a group
(spec/30_encoding.md R90, R98, R99).
-/

namespace Sys2Proof.Laws.Carrier

/-- The instruction has a group encoding exactly if it is a command-group operation, and then it has
no port encoding. -/
def Statement (i : Instr) : Prop :=
  (encodeGroup i).isSome = i.isGroup ∧ (i.isGroup = true → encodePorts i = none)

theorem nop (r g b : Byte) : Statement (.nop r g b) := ⟨rfl, fun _ => rfl⟩
theorem setOff (x : Bool) (idx : LedIdx) (r g b : Byte) : Statement (.setOff x idx r g b) :=
  ⟨rfl, fun _ => rfl⟩
theorem setOn (x : Bool) (idx : LedIdx) (r g b : Byte) : Statement (.setOn x idx r g b) :=
  ⟨rfl, fun _ => rfl⟩
theorem setBlink (x : Bool) (idx : LedIdx) (r g b : Byte) : Statement (.setBlink x idx r g b) :=
  ⟨rfl, fun _ => rfl⟩
theorem setPs3 (x : Bool) (idx : LedIdx) (r g b : Byte) : Statement (.setPs3 x idx r g b) :=
  ⟨rfl, fun _ => rfl⟩
theorem rst : Statement .rst := ⟨rfl, fun h => nomatch h⟩
theorem report (data : Vector Byte 64) : Statement (.report data) := ⟨rfl, fun h => nomatch h⟩
theorem clr : Statement .clr := ⟨rfl, fun h => nomatch h⟩
theorem render : Statement .render := ⟨rfl, fun h => nomatch h⟩
theorem get (idx : Byte) : Statement (.get idx) := ⟨rfl, fun h => nomatch h⟩
theorem tick : Statement .tick := ⟨rfl, fun _ => rfl⟩
theorem launch : Statement .launch := ⟨rfl, fun _ => rfl⟩
theorem shift : Statement .shift := ⟨rfl, fun _ => rfl⟩
theorem done : Statement .done := ⟨rfl, fun _ => rfl⟩

end Sys2Proof.Laws.Carrier
end

