-- ==== Sys2Proof/Laws/Runs.lean ====
section
/-!
SUPPORT. Runs of several cycles: one more step, determinism, concatenation, and the induction that
carries a property kept by every step along a run.
-/

namespace Sys2Proof.Machine

theorem runs_zero (s t : State) : Runs 0 s t ↔ s = t := by
  unfold Runs
  exact ⟨fun h => Host.Outcome.next.inj h, fun h => by subst h; rfl⟩

theorem runs_succ (n : Nat) (s t : State) :
    Runs (n + 1) s t ↔ ∃ u, step s = .next u ∧ Runs n u t := by
  unfold Runs
  cases h : step s with
  | next u =>
    have hc : Sys2Proof.core.step s = .next u := h
    simp only [Host.Core.run]; rw [hc]
    exact ⟨fun h => ⟨u, rfl, h⟩, fun ⟨v, hv, h⟩ => by cases hv; exact h⟩
  | fault r => nomatch r
  | refused r =>
    have hc : Sys2Proof.core.step s = .refused r := h
    simp only [Host.Core.run]; rw [hc]
    exact ⟨(fun h => nomatch h), (fun ⟨_, hv, _⟩ => nomatch hv)⟩

/-- A run ends in one state. -/
theorem runs_unique (n : Nat) (s t u : State) (ht : Runs n s t) (hu : Runs n s u) : t = u := by
  unfold Runs at ht hu
  rw [ht] at hu
  exact Host.Outcome.next.inj hu

theorem runs_add (a b : Nat) (s t u : State) (h : Runs a s t) (h' : Runs b t u) :
    Runs (a + b) s u := by
  induction a generalizing s with
  | zero => rw [runs_zero] at h; subst h; simpa using h'
  | succ a ih =>
    obtain ⟨v, hv, hr⟩ := (runs_succ a s t).1 h
    rw [Nat.succ_add, runs_succ]
    exact ⟨v, hv, ih v hr⟩

/-- One more cycle at the end of a run. -/
theorem runs_snoc (n : Nat) (s t u : State) (h : Runs n s t) (hs : step t = .next u) :
    Runs (n + 1) s u :=
  runs_add n 1 s t u h ((runs_succ 0 t u).2 ⟨u, hs, (runs_zero u u).2 rfl⟩)

/-- A property that every step keeps holds along every run. -/
theorem runs_keep (P : State → Prop) (hstep : ∀ s t, P s → step s = .next t → P t)
    (n : Nat) (s t : State) (hs : P s) (h : Runs n s t) : P t := by
  induction n generalizing s with
  | zero => rw [runs_zero] at h; exact h ▸ hs
  | succ n ih =>
    obtain ⟨u, hu, hr⟩ := (runs_succ n s t).1 h
    exact ih u (hstep s u hs hu) hr

end Sys2Proof.Machine
end

