-- ==== Sys2Proof/Tests/Slice0.lean ====
section
/-!
SUPPORT. Own tests and witnesses. The expected value of every `test_…` theorem is taken from
spec/95_test_vectors.md or computed by hand from the rule its comment names. Every `witness_…`
theorem shows a concrete state and operands that meet all hypotheses of one obligation, or of one
of its clauses.
-/

namespace Sys2Proof.Tests

open Sys2Proof Sys2Proof.Machine

/-! ## Helpers -/

/-- The state a step answers, if it answers one. -/
def after : Host.Outcome State Fault Refusal → Option State
  | .next s => some s
  | .fault _ => none
  | .refused _ => none

/-- Two steps. -/
def twice (s : State) : Option State := (after (step s)).bind fun t => after (step t)

/-- A small block: CELL_DIV = 2, BLINK_DIV = 3. -/
def small : Config.Params := ⟨2, 3, by decide, by decide⟩

/-- Right after reset of the small block. -/
def idle0 : State := State.resetOf small

/-- The 64 bytes that begin with `bs`, zeros after. -/
def report (bs : List Byte) : Vector Byte 64 := tabulate 64 fun k => bs.getD k.val 0x00#8

/-- The small block in RUN at group `g` of the report that begins with `bs`. -/
def runAt (g : Fin 16) (bs : List Byte) : State :=
  { idle0 with decState := .run, decGrp := g, rptBuf := report bs }

/-- The small block with every group applied. -/
def wait0 : State := { idle0 with decState := .wait, decGrp := 15 }

/-- A frame in flight at the given position. -/
def busyAt (byte : Fin 1022) (bit : Fin 8) (cell : Fin 2) : State :=
  { idle0 with
    txBusy := true, txByte := byte, txBit := bit
    cellCnt := cell.val, cellCnt_lt := cell.isLt }

/-- The small block with the divider at the given count. -/
def blinkAt (count : Fin 3) : State :=
  { idle0 with blinkCnt := count.val, blinkCnt_lt := count.isLt }

/-- Entry `i` after a step, with code and colour. -/
def entryAfter (o : Host.Outcome State Fault Refusal) (i : Nat) : Option Entry :=
  (after o).map fun t => readEntry t.T i

/-! ## WellFormed -/

/-- The one check: `SET.OFF` of LED 0 without bit 7 has no spelling (R96, R103). -/
theorem test_wellFormed_refuses_setOff_zero :
    ¬(Instr.setOff false 0#5 1#8 2#8 3#8).WellFormed := by decide

theorem test_wellFormed_accepts_setOff_zero_x :
    (Instr.setOff true 0#5 1#8 2#8 3#8).WellFormed ∧
      (Instr.setOff false 1#5 1#8 2#8 3#8).WellFormed := by decide

/-! ## Decoding -/

/-- The header table of spec/95_test_vectors.md section 2.1, headers written bit by bit (R92). -/
theorem test_headers_of_section_2_1 :
    [0b00000000#8, 0b00000001#8, 0b00011111#8, 0b00100000#8, 0b00111111#8, 0b01000000#8,
      0b01011111#8, 0b01100000#8, 0b01111111#8].map (fun h => decodeGroup ⟨h, 7#8, 8#8, 9#8⟩) =
    [.nop 7#8 8#8 9#8, .setOff false 1#5 7#8 8#8 9#8, .setOff false 31#5 7#8 8#8 9#8,
      .setOn false 0#5 7#8 8#8 9#8, .setOn false 31#5 7#8 8#8 9#8, .setBlink false 0#5 7#8 8#8 9#8,
      .setBlink false 31#5 7#8 8#8 9#8, .setPs3 false 0#5 7#8 8#8 9#8,
      .setPs3 false 31#5 7#8 8#8 9#8] := by decide

theorem test_headers_with_bit_7 :
    [0b10000000#8, 0b10011111#8, 0b10100000#8, 0b10100011#8, 0b11000000#8, 0b11100000#8,
      0b11111111#8].map (fun h => decodeGroup ⟨h, 7#8, 8#8, 9#8⟩) =
    [.setOff true 0#5 7#8 8#8 9#8, .setOff true 31#5 7#8 8#8 9#8, .setOn true 0#5 7#8 8#8 9#8,
      .setOn true 3#5 7#8 8#8 9#8, .setBlink true 0#5 7#8 8#8 9#8, .setPs3 true 0#5 7#8 8#8 9#8,
      .setPs3 true 31#5 7#8 8#8 9#8] := by decide

/-- Every group is exactly 4 bytes (R100). -/
theorem test_short_group_is_rejected :
    (match decodeBytes [0x21#8, 10#8, 20#8] with | .error .shortGroup => true | .ok _ => false) = true ∧
    (match decodeBytes [0x21#8, 10#8, 20#8, 30#8, 5#8] with
      | .error _ => none | .ok p => some p) =
      some (.setOn false 1#5 10#8 20#8 30#8, [5#8]) := by decide

/-- The port vectors `{rst, rpt_valid, clr, render_req}` of the opcode table. -/
theorem test_port_vectors :
    decodeTableWord 8 0b1000 = some .rst ∧ decodeTableWord 8 0b1111 = some .rst ∧
    decodeTableWord 8 0b0100 = some (.report (report [])) ∧
    decodeTableWord 8 0b0010 = some .clr ∧ decodeTableWord 8 0b0001 = some .render ∧
    decodeTableWord 0 0 = some (.get 0x00#8) := by decide

/-- Any combination of the three strobes may come in one cycle (R98). -/
theorem test_strobes_combine :
    decodePorts { Inputs.quiet with clr := true, renderReq := true, rdIdx := 5#8 } =
      [.get 5#8, .clr, .render] := by decide

/-- A group word, header in the low byte. -/
theorem test_group_word :
    decodeTableWord 32 0x1E140A21 = some (.setOn false 1#5 10#8 20#8 30#8) ∧
    decodeTableWord 8 0x40 = some (.setBlink false 0#5 0#8 0#8 0#8) := by decide

/-- Internal events are not encoded (R99). -/
theorem test_events_have_no_encoding :
    [Instr.tick, .launch, .shift, .done].map encode = [none, none, none, none] := by decide

/-- Byte k of the port is `rpt_data[8k+7:8k]` (R64). -/
theorem test_report_port_packing :
    bytesValue [0x01#8, 0x02#8, 0x03#8] = 0x030201 := by decide

/-! ## The notation (R101 to R103) -/

/-- Program P3's report (spec/95_test_vectors.md section 3). -/
theorem test_report_of_P3 :
    assembleReport [.setOn 5 1 1 1, .setBlink 5 2 2 2, .setOffX 0 9 9 9, .setPs3 2 0x11 0x22 0x33,
      .raw 0 0xFF 0xFF 0xFF, .setOn 31 1 2 3] =
    some (report [0x25#8, 1#8, 1#8, 1#8, 0x45#8, 2#8, 2#8, 2#8, 0x80#8, 9#8, 9#8, 9#8,
      0x62#8, 0x11#8, 0x22#8, 0x33#8, 0x00#8, 0xFF#8, 0xFF#8, 0xFF#8,
      0x3F#8, 1#8, 2#8, 3#8]) := by decide

theorem test_off_zero_is_header_80 :
    (GroupForm.off 0).assemble = some ⟨0x80#8, 0#8, 0#8, 0#8⟩ ∧
    (GroupForm.setOff 0 9 9 9).assemble = some ⟨0x80#8, 9#8, 9#8, 9#8⟩ := by decide

theorem test_line_combination :
    presentLines [.clr, .render, .get 5] =
      some { Inputs.quiet with clr := true, renderReq := true, rdIdx := 5#8 } := by decide

/-! ## Command-group operations -/

/-- Section 2.2's starting point: `T[0] = (7, 7, 7, 1)`, in RUN at group 0. -/
def lit (bs : List Byte) : State := (runAt 0 bs).tableWrite 0 ⟨7#8, 7#8, 7#8, 1#2⟩

/-- `00 01 02 03` (section 2.2). -/
theorem test_nop_keeps_the_entry :
    entryAfter (step (lit [0x00#8, 1#8, 2#8, 3#8])) 0 = some ⟨7#8, 7#8, 7#8, 1#2⟩ := by decide

/-- R123: a `NOP` cycle is a RUN cycle too. -/
theorem test_nop_advances :
    (after (exec (.nop 9#8 9#8 9#8) (runAt 3 []))).map (fun t => (t.decGrp, t.decState)) =
      some (4, .run) := by decide

/-- `80 01 02 03` (section 2.2). -/
theorem test_setOff :
    entryAfter (step (lit [0x80#8, 1#8, 2#8, 3#8])) 0 = some ⟨1#8, 2#8, 3#8, 0#2⟩ := by decide

/-- `A3 04 05 06` (section 2.2). -/
theorem test_setOn_ignores_bit_7 :
    entryAfter (step (lit [0xA3#8, 4#8, 5#8, 6#8])) 3 = some ⟨4#8, 5#8, 6#8, 1#2⟩ ∧
    entryAfter (step (lit [0xA3#8, 4#8, 5#8, 6#8])) 0 = some ⟨7#8, 7#8, 7#8, 1#2⟩ := by decide

/-- E4, the word fetched from reset. -/
theorem test_setOn_from_reset :
    entryAfter (step (State.reset.withFetchWord 32 0x1E140A21)) 1 =
      some ⟨10#8, 20#8, 30#8, 1#2⟩ := by decide

/-- `40 FF 00 00` (section 2.2). -/
theorem test_setBlink :
    entryAfter (step (lit [0x40#8, 255#8, 0#8, 0#8])) 0 = some ⟨255#8, 0#8, 0#8, 2#2⟩ := by decide

/-- `62 11 22 33` (section 2.2). -/
theorem test_setPs3 :
    entryAfter (step (lit [0x62#8, 0x11#8, 0x22#8, 0x33#8])) 2 =
      some ⟨0x11#8, 0x22#8, 0x33#8, 3#2⟩ := by decide

/-- Group 15 ends RUN and leaves `dec_grp` at 15 (R123). -/
theorem test_last_group_goes_to_wait :
    (after (step (runAt 15 []))).map (fun t => (t.decState, t.decGrp)) = some (.wait, 15) := by decide

/-- `25 01 01 01` then `45 02 02 02`: the later group wins (section 2.2, R129). -/
theorem test_later_group_wins :
    (twice (lit [0x25#8, 1#8, 1#8, 1#8, 0x45#8, 2#8, 2#8, 2#8])).map (fun t => readEntry t.T 5) =
      some ⟨2#8, 2#8, 2#8, 2#2⟩ := by decide

/-! ## Port operations -/

/-- A report under execution, a frame in flight, a clear pending and the off-phase at once. -/
def allBusy : State :=
  { runAt 2 [0x21#8, 1#8, 1#8, 1#8] with
    txBusy := true
    txByte := 9
    clrPend := true
    phase := false }

/-- X5, X6: reset in RUN drops the report, and a frame in flight is dropped too. -/
theorem test_rst :
    (after (step (allBusy.withInput
        { Inputs.quiet with rst := true, rptValid := true, clr := true }))).map
      (fun t => (t.decState, t.decGrp, t.txBusy, t.txByte, t.clrPend, t.phase)) =
    some (.idle, 0, false, 0, false, true) := by decide

theorem test_rst_from_reset :
    after (step (State.reset.withFetchWord 8 0b1000)) = some State.reset := by decide

/-- R121: acceptance in IDLE. -/
theorem test_report_taken :
    (after (exec (.report (report [0x21#8, 5#8])) idle0)).map
      (fun t => (t.decState, t.decGrp, t.rptBuf)) =
    some (.run, 0, report [0x21#8, 5#8]) := by decide

theorem test_report_not_taken_in_run :
    after (exec (.report (report [0x21#8])) (runAt 3 [])) = some (runAt 3 []) := by decide

/-- T4 (section 2.4): `clr` beside the report is held while the decoder runs. -/
theorem test_clr_beside_report :
    (after (step (idle0.withInput { Inputs.quiet with clr := true, rptValid := true }))).map
      (fun t => (t.clrPend, t.decState)) = some (true, .run) := by decide

/-- T2: a clear strobed in one IDLE cycle is applied at the edge of the next. -/
theorem test_clr_applied_next_cycle :
    (twice ((idle0.tableWrite 5 ⟨2#8, 2#8, 2#8, 2#2⟩).withInput
      { Inputs.quiet with clr := true })).map (fun t => (readEntry t.T 5, t.clrPend)) =
    some (⟨0#8, 0#8, 0#8, 0#2⟩, false) := by decide

/-- X1: `req_ext` in the next cycle, `tx_busy` in the one after. -/
theorem test_render :
    (after (step (State.reset.withFetchWord 8 1))).map (fun t => (t.reqExt, t.txBusy)) =
      some (true, false) ∧
    (twice (State.reset.withFetchWord 8 1)).map (fun t => (t.reqExt, t.txBusy)) =
      some (false, true) := by decide

/-- T5: clear and render in one cycle: the launch captures the table from before the clear. -/
theorem test_launch_sees_table_before_clear :
    (after (step ({ idle0.tableWrite 0 ⟨1#8, 2#8, 3#8, 1#2⟩ with clrPend := true, reqExt := true } :
      State))).map (fun t => (t.snap[0], readEntry t.T 0)) =
    some (0x020103#24, ⟨0#8, 0#8, 0#8, 0#2⟩) := by decide

/-- T1, and P3's `GET 2`. -/
theorem test_get :
    (after (exec (.get 2#8) (idle0.tableWrite 2 ⟨0x11#8, 0x22#8, 0x33#8, 3#2⟩))).map State.rdPort =
      some ⟨0x11#8, 0x22#8, 0x33#8, 3#2⟩ := by decide

theorem test_get_past_the_end :
    [32, 40, 100, 255].map (fun k => readEntry (Vector.replicate 32 ⟨1#8, 1#8, 1#8, 1#2⟩) k) =
      List.replicate 4 ⟨0#8, 0#8, 0#8, 0#2⟩ ∧
    readEntry (Vector.replicate 32 ⟨1#8, 1#8, 1#8, 1#2⟩) 31 = ⟨1#8, 1#8, 1#8, 1#2⟩ := by decide

/-! ## Internal events -/

/-- B1: BLINK_DIV = 3, the tick at the edge of cycle 2. -/
theorem test_tick :
    (after (step (blinkAt 2))).map
      (fun t => (t.phase, t.blinkCnt, t.reqBlink)) = some (false, 0, true) ∧
    (after (step (blinkAt 1))).map
      (fun t => (t.phase, t.blinkCnt, t.reqBlink)) = some (true, 2, false) := by decide

/-- B4: tick and launch on one edge; the tick's request stays set and the frame has phase 1. -/
theorem test_tick_at_launch :
    (after (step ({ (blinkAt 2).tableWrite 0 ⟨1#8, 2#8, 3#8, 2#2⟩ with reqExt := true } : State))).map (fun t => (t.reqBlink, t.reqExt, t.txBusy, t.phase, t.snap[0])) =
    some (true, false, true, false, 0x020103#24) := by decide

/-- E3, R131: the launch that serves WAIT acknowledges and goes IDLE. -/
theorem test_launch_acknowledges :
    (after (step wait0)).map (fun t => (t.ackPulse, t.decState, t.txBusy, t.decGrp)) =
      some (true, .idle, true, 15) := by decide

/-- R33: the pulse lasts one cycle. -/
theorem test_ack_ends :
    (twice wait0).map (fun t => (t.ackPulse, t.txBusy, t.cellCnt)) = some (false, true, 1) := by
  decide

/-- X2: CELL_DIV = 2, each line bit is held for two cycles (R206). -/
theorem test_shift :
    (after (step (busyAt 4 7 0))).map (fun t => (t.txByte, t.txBit, t.cellCnt)) = some (4, 7, 1) ∧
    (after (step (busyAt 4 7 1))).map (fun t => (t.txByte, t.txBit, t.cellCnt)) = some (5, 0, 0) ∧
    (after (step (busyAt 4 3 1))).map (fun t => (t.txByte, t.txBit, t.cellCnt)) = some (4, 4, 0) := by
  decide

/-- R207: the last cycle of the last line bit. -/
theorem test_done :
    (after (step (busyAt 1021 7 1))).map (fun t => (t.txBusy, t.txByte, t.txBit, t.cellCnt)) =
      some (false, 0, 0, 0) ∧
    (after (step (busyAt 1021 7 0))).map (fun t => (t.txBusy, t.txByte, t.cellCnt)) =
      some (true, 1021, 1) := by decide

/-- X3: the request pending at `DONE` is served one cycle later, not at the same edge (R214). -/
theorem test_no_launch_at_done :
    (after (step ({ busyAt 1021 7 1 with reqExt := true } : State))).map
      (fun t => (t.txBusy, t.reqExt)) = some (false, true) ∧
    (twice { busyAt 1021 7 1 with reqExt := true }).map (fun t => (t.txBusy, t.reqExt)) =
      some (true, false) := by decide

/-! ## The encoder and the outputs -/

/-- E5. -/
theorem test_effective_colours :
    [1#2, 0#2, 2#2, 3#2].map (fun p => (eff ⟨10#8, 20#8, 30#8, p⟩ true, eff ⟨10#8, 20#8, 30#8, p⟩ false)) =
    [(⟨10#8, 20#8, 30#8⟩, ⟨10#8, 20#8, 30#8⟩), (⟨0#8, 0#8, 0#8⟩, ⟨0#8, 0#8, 0#8⟩),
      (⟨10#8, 20#8, 30#8⟩, ⟨0#8, 0#8, 0#8⟩), (⟨0#8, 0#8, 0#8⟩, ⟨0#8, 0#8, 0#8⟩)] := by decide

/-- `grb` of section 2.6. -/
theorem test_grb :
    grb ⟨0x01#8, 0x02#8, 0x03#8⟩ = 0x020103#24 ∧ grb ⟨255#8, 0#8, 0#8⟩ = 0x00FF00#24 := by decide

/-- E7: bytes 4..27 of a frame with LED 0 = (1, 2, 3), the others off. -/
theorem test_waveform_of_E7 :
    (List.range 24).map (fun j =>
      waveByte (snapOf ((Vector.replicate 32 offEntry).set 0 ⟨1#8, 2#8, 3#8, 1#2⟩) true) (4 + j)) =
    [0xC0#8, 0xC0#8, 0xC0#8, 0xC0#8, 0xC0#8, 0xC0#8, 0xF8#8, 0xC0#8,
      0xC0#8, 0xC0#8, 0xC0#8, 0xC0#8, 0xC0#8, 0xC0#8, 0xC0#8, 0xF8#8,
      0xC0#8, 0xC0#8, 0xC0#8, 0xC0#8, 0xC0#8, 0xC0#8, 0xF8#8, 0xF8#8] := by decide

/-- The region boundaries of section 2.6. -/
theorem test_waveform_boundaries :
    [3, 4, 771, 772, 1021].map (waveByte (Vector.replicate 32 0x800001#24)) =
      [0x00#8, 0xF8#8, 0xF8#8, 0x00#8, 0x00#8] := by decide

/-- Section 2.8. -/
theorem test_outputs_after_reset :
    out State.reset { Inputs.quiet with rdIdx := 31#8 } =
      { rptReady := true, ackValid := false, ackData := 0x00#8, rdR := 0#8, rdG := 0#8, rdB := 0#8,
        rdPs := 0#2, ledOut := false, txBusy := false, blinkPhase := true } := by decide

/-- X2: the first high line bit of a frame of all-off entries is bit 0 of byte 4. -/
theorem test_line_output :
    [((busyAt 3 7 1).ledOut), ((busyAt 4 0 0).ledOut), ((busyAt 4 1 1).ledOut),
      ((busyAt 4 2 0).ledOut)] = [false, true, true, false] := by decide

/-! ## Witnesses of the obligations' hypotheses

`idle0`, `wait0`, `runAt` and `busyAt` are states of the block with CELL_DIV = 2, BLINK_DIV = 3, and
hold no coming inputs, so that every cycle of theirs is quiet. -/

/-- The witness for `NoReset`: quiet inputs. -/
theorem noReset_of_no_inputs (s : State) (h : s.inputs = []) (n : Nat) : s.NoReset n := by
  intro k _
  simp [State.inputAt, h, Inputs.quiet]

/-- IDLE, with a tick's request pending and nothing in flight. -/
def asking : State := { idle0 with reqBlink := true }

/-- The block in a cycle that offers a report of one `SET.ON`, with a tick's request pending. -/
def offering : State :=
  asking.withInput { Inputs.quiet with rptValid := true, rptData := report [0x21#8, 5#8] }

/-- One lit LED, IDLE, with a clear pending and a launch and a report due in this cycle. -/
def clearing : State := { offering.tableWrite 0 ⟨1#8, 2#8, 3#8, 1#2⟩ with clrPend := true }

/-- The block in a cycle with `rst = 1`. -/
def resetting : State := allBusy.withInput { Inputs.quiet with rst := true }

theorem witness_GroupEncodingRoundTrip :
    (Instr.setOff true 0#5 255#8 0#8 1#8).isGroup = true ∧
      (Instr.setOff true 0#5 255#8 0#8 1#8).WellFormed ∧
    (Instr.setPs3 true 31#5 255#8 0#8 1#8).isGroup = true ∧
      (Instr.setPs3 true 31#5 255#8 0#8 1#8).WellFormed := by decide

theorem witness_PortEncodingSelectsItsOperation :
    encode .rst = some (.ports { Inputs.quiet with rst := true }) ∧
    encode (.report (report [1#8])) =
      some (.ports { Inputs.quiet with rptValid := true, rptData := report [1#8] }) ∧
    encode .clr = some (.ports { Inputs.quiet with clr := true }) ∧
    encode .render = some (.ports { Inputs.quiet with renderReq := true }) ∧
    encode (.get 255#8) = some (.ports { Inputs.quiet with rdIdx := 255#8 }) ∧
    ({ Inputs.quiet with rst := true, clr := true } : Inputs).rst = true := by decide

/-- Headers 0x80, 0x20, 0x40 and 0x60: one for each clause; none is 0x00. -/
theorem witness_SetOperationChosenByPowerStateBits :
    (0x80#8 ≠ 0x00#8 ∧ (0x80#8).extractLsb' 5 2 = 0#2) ∧
    (0x20#8 ≠ 0x00#8 ∧ (0x20#8).extractLsb' 5 2 = 1#2) ∧
    (0x40#8 ≠ 0x00#8 ∧ (0x40#8).extractLsb' 5 2 = 2#2) ∧
    (0x60#8 ≠ 0x00#8 ∧ (0x60#8).extractLsb' 5 2 = 3#2) := by decide

theorem witness_HeaderTableIsDecoded :
    decodeGroup ⟨0x80#8, 1#8, 2#8, 3#8⟩ = .setOff true 0#5 1#8 2#8 3#8 := by decide

theorem witness_ReportPortPacking : 0 < 64 ∧ 63 < 64 := by decide

theorem witness_NotationNeverSpellsSetOffAsNop :
    (∀ idx ∈ [0, 31], idx < 32) ∧ (255 < 256 ∧ (0 : Nat) < 256) ∧ (32 ≤ 32 ∨ 256 ≤ 0) ∧
    (32 ≤ 31 ∨ 256 ≤ 256) ∧ 16 < (List.replicate 17 GroupForm.nop).length := by decide

theorem witness_GroupOperationsMoveTheMicrostate :
    (Instr.nop 1#8 1#8 1#8).isGroup = true ∧ (Instr.setPs3 false 2#5 1#8 1#8 1#8).isGroup = true ∧
    (runAt 14 []).decState = .run ∧ (runAt 15 []).decState = .run := by decide

theorem witness_NopLeavesTheTable : (runAt 15 [0x00#8, 9#8]).decState = .run := by decide

theorem witness_SetOffStoresItsEntry :
    (runAt 14 []).decState = .run ∧ (0x01#8 ≠ 0x00#8 ∧ (0x01#8).extractLsb' 5 2 = 0#2) ∧
    (0x9F#8 ≠ 0x00#8 ∧ (0x9F#8).extractLsb' 5 2 = 0#2) ∧
    decodeGroup ⟨0x80#8, 9#8, 9#8, 9#8⟩ = .setOff true 0#5 9#8 9#8 9#8 := by decide

theorem witness_SetOnStoresItsEntry :
    (runAt 15 []).decState = .run ∧ (0x3F#8).extractLsb' 5 2 = 1#2 ∧
    (0xA0#8).extractLsb' 5 2 = 1#2 := by decide

theorem witness_SetBlinkStoresItsEntry :
    (runAt 0 []).decState = .run ∧ (0x5F#8).extractLsb' 5 2 = 2#2 ∧
    (0xC0#8).extractLsb' 5 2 = 2#2 := by decide

theorem witness_SetPs3StoresItsEntry :
    (runAt 15 []).decState = .run ∧ (31#8).toNat = (31#5).toNat ∧
    (0x7F#8).extractLsb' 5 2 = 3#2 ∧ (0xE0#8).extractLsb' 5 2 = 3#2 := by decide

theorem witness_GroupOperationsNeedRun :
    (Instr.setOn false 3#5 1#8 1#8 1#8).isGroup = true ∧ idle0.decState ≠ .run ∧
    wait0.decState ≠ .run := by decide

theorem witness_ResetOverridesEveryOtherInput : resetting.input.rst = true := by decide

theorem witness_OutputsAfterReset : resetting.input.rst = true := by decide

theorem witness_ReportIsCapturedWhenIdle :
    idle0.decState = .idle ∧ wait0.decState ≠ .idle ∧ (runAt 15 []).decState ≠ .idle := by decide

theorem witness_GetReadsOneEntry :
    (31#8).toNat < 32 ∧ 32 ≤ (32#8).toNat ∧ 32 ≤ (255#8).toNat ∧ (0#8).toNat < 32 := by decide

theorem witness_ReadPortCarriesTheEntry :
    ({ Inputs.quiet with rdIdx := 31#8 } : Inputs).rdIdx.toNat < 32 ∧
    32 ≤ ({ Inputs.quiet with rdIdx := 32#8 } : Inputs).rdIdx.toNat := by decide

theorem witness_TickTogglesThePhase :
    (blinkAt 2).blinkCnt = small.blinkDiv - 1 ∧
    (blinkAt 1).blinkCnt ≠ small.blinkDiv - 1 := by decide

/-- A launch for a waiting decoder, for a tick's and for an external request; and each way in which
the condition fails. -/
theorem witness_LaunchStartsAFrame :
    LaunchEnabled wait0 ∧ LaunchEnabled asking ∧ LaunchEnabled { idle0 with reqExt := true } ∧
    asking.decState = .idle ∧ wait0.decState = .wait ∧
    ¬LaunchEnabled idle0 ∧ ¬LaunchEnabled { busyAt 0 0 0 with reqExt := true } ∧
    ¬LaunchEnabled { runAt 15 [] with reqExt := true } := by
  simp only [← launchDue_iff]; decide

/-- The four branches, each at its boundary. -/
theorem witness_ShiftAdvancesTheSerializer :
    (busyAt 0 0 0).txBusy = true ∧ (busyAt 0 0 0).cellCnt < small.cellDiv - 1 ∧
    small.cellDiv - 1 ≤ (busyAt 3 6 1).cellCnt ∧ (busyAt 3 6 1).txBit.val < 7 ∧
    small.cellDiv - 1 ≤ (busyAt 1020 7 1).cellCnt ∧ (busyAt 1020 7 1).txBit.val = 7 ∧
      (busyAt 1020 7 1).txByte.val < 1021 ∧
    small.cellDiv - 1 ≤ (busyAt 1021 7 1).cellCnt ∧ (busyAt 1021 7 1).txBit.val = 7 ∧
      (busyAt 1021 7 1).txByte.val = 1021 ∧ idle0.txBusy = false := by decide

theorem witness_DoneIdlesTheTransmitter :
    LastFrameCycle (busyAt 1021 7 1) ∧ ¬LastFrameCycle (busyAt 1021 7 0) ∧
    ¬LastFrameCycle idle0 := by
  simp only [← doneDue_iff]; decide

theorem witness_WaveformBitMap :
    (0 < 32 ∧ 0 < 3 ∧ 0 < 8) ∧ (31 < 32 ∧ 2 < 3 ∧ 7 < 8) := by decide

theorem witness_WaveformRegions :
    (3 < 1022 ∧ 3 < 4) ∧ (4 < 1022 ∧ 4 ≤ 4 ∧ 4 < 772) ∧ (771 < 1022 ∧ 4 ≤ 771 ∧ 771 < 772) ∧
    (772 < 1022 ∧ 772 ≤ 772) ∧ (1021 < 1022 ∧ 772 ≤ 1021) := by decide

theorem witness_LineBitPatterns :
    waveByte (Vector.replicate 32 0x800001#24) 4 = 0xF8#8 ∧
    waveByte (Vector.replicate 32 0x800001#24) 5 = 0xC0#8 ∧
    waveByte (Vector.replicate 32 0x800001#24) 772 = 0x00#8 := by decide

theorem witness_SerialLineIsGated :
    (busyAt 4 0 0).txBusy = true ∧ idle0.txBusy = false := by decide

theorem witness_StepRunsTheDecodedGroup :
    (runAt 0 [0x21#8, 10#8, 20#8, 30#8]).input.rst = false ∧
    (runAt 0 [0x21#8, 10#8, 20#8, 30#8]).decState = .run ∧
    decodeGroup (groupAt (runAt 0 [0x21#8, 10#8, 20#8, 30#8]).rptBuf 0) =
      .setOn false 1#5 10#8 20#8 30#8 := by decide

theorem witness_PlacedOperationIsSelected :
    encode .clr = some (.ports { Inputs.quiet with clr := true }) ∧
    encode (.report (report [0x21#8])) =
      some (.ports { Inputs.quiet with rptValid := true, rptData := report [0x21#8] }) := by decide

/-- The six rows of R133. -/
theorem witness_DecoderTransitions :
    (idle0.input.rst = false ∧ idle0.decState = .idle ∧ idle0.input.rptValid = false) ∧
    (offering.input.rst = false ∧ offering.decState = .idle ∧ offering.input.rptValid = true) ∧
    ((runAt 14 []).input.rst = false ∧ (runAt 14 []).decState = .run ∧
      (runAt 14 []).decGrp.val < 15) ∧
    ((runAt 15 []).input.rst = false ∧ (runAt 15 []).decState = .run ∧
      (runAt 15 []).decGrp.val = 15) ∧
    (({ wait0 with txBusy := true } : State).input.rst = false ∧
      ({ wait0 with txBusy := true } : State).decState = .wait ∧
      ¬LaunchEnabled { wait0 with txBusy := true }) ∧
    (wait0.input.rst = false ∧ wait0.decState = .wait ∧ LaunchEnabled wait0) := by
  simp only [← launchDue_iff]; decide

theorem witness_PhaseChangesOnlyAtTicks :
    (blinkAt 2).input.rst = false ∧
    (blinkAt 2).blinkCnt = small.blinkDiv - 1 ∧
    idle0.input.rst = false ∧ idle0.blinkCnt ≠ small.blinkDiv - 1 := by decide

theorem witness_SetWinsOverClear : ({ blinkAt 2 with reqBlink := true } : State).input.rst = false := by
  decide

theorem witness_ClearIsAppliedWhenIdle :
    (clearing.input.rst = false ∧ clearing.clrPend = true ∧ clearing.decState = .idle ∧
      LaunchEnabled clearing ∧ clearing.input.rptValid = true) ∧
    (({ runAt 3 [] with clrPend := true } : State).input.rst = false ∧
      ({ runAt 3 [] with clrPend := true } : State).decState ≠ .idle) ∧
    (({ wait0 with clrPend := true } : State).input.rst = false ∧
      ({ wait0 with clrPend := true } : State).decState = .wait) := by
  simp only [← launchDue_iff]; decide

/-- The step changes entry 0. -/
def entry0Changes (s : State) : Prop :=
  ∃ t, step s = .next t ∧ readEntry t.T 0 ≠ readEntry s.T 0

/-- A group's write, a clear, and a reset each change an entry. -/
theorem witness_TableWritersAreExclusive :
    entry0Changes (runAt 0 [0x20#8, 7#8, 7#8, 7#8]) ∧ entry0Changes clearing ∧
    entry0Changes (resetting.tableWrite 0 ⟨7#8, 7#8, 7#8, 1#2⟩) :=
  ⟨⟨_, step_run _, by decide⟩, ⟨_, step_run _, by decide⟩, ⟨_, step_run _, by decide⟩⟩

/-- A step without launch, with one, in RUN and while busy. -/
theorem witness_SnapshotChangesOnlyAtLaunch :
    (idle0.input.rst = false ∧ ¬LaunchEnabled idle0 ∧ ∃ t, step idle0 = .next t) ∧
    (asking.input.rst = false ∧ LaunchEnabled asking ∧ asking.txBusy = false ∧
      ∃ t, step asking = .next t ∧ t.txBusy = true) ∧
    ((runAt 0 []).decState = .run ∧ (runAt 0 []).input.rst = false ∧
      ∃ t, step (runAt 0 []) = .next t) ∧
    ((busyAt 5 0 0).txBusy = true ∧ (busyAt 5 0 0).input.rst = false ∧
      ∃ t, step (busyAt 5 0 0) = .next t) := by
  refine ⟨⟨by decide, ?_, _, step_run _⟩, ⟨by decide, ?_, by decide, _, step_run _, by decide⟩,
    ⟨by decide, by decide, _, step_run _⟩, ⟨by decide, by decide, _, step_run _⟩⟩ <;>
  · rw [← launchDue_iff]; decide

theorem witness_ReportDataMattersOnlyWhenTaken :
    (runAt 3 []).decState ≠ .idle ∧ idle0.input.rptValid = false ∧ resetting.input.rst = true := by
  decide

/-- The invariant holds of a state in the middle of a frame and of a report. -/
theorem busy_inv : State.Inv { busyAt 1021 7 1 with decState := .run, decGrp := 7 } :=
  ⟨by decide, by decide, by decide, by decide⟩

theorem witness_EveryStepKeepsTheInvariant :
    ∃ s t : State, s.Inv ∧ step s = .next t :=
  ⟨_, _, busy_inv, step_run _⟩

/-- A state reached from reset under the inputs `is`. -/
def Reached (is : List Inputs) (t : State) : Prop :=
  ∃ n, Runs n { State.resetOf small with inputs := is } t

theorem reached_run (is : List Inputs) (n : Nat) (q : State → Bool)
    (h : (after (Host.Core.run Sys2Proof.core n
      ({ State.resetOf small with inputs := is } : State))).map q = some true) :
    ∃ t, Reached is t ∧ q t = true := by
  cases e : Host.Core.run Sys2Proof.core n ({ State.resetOf small with inputs := is } : State) with
  | next t => rw [e] at h; exact ⟨t, ⟨n, e⟩, Option.some.inj h⟩
  | fault r => exact nomatch r
  | refused r => rw [e] at h; exact nomatch h

/-- Clause by clause: an idle transmitter outside RUN; an acknowledged report, which is also a busy
transmitter. -/
theorem witness_ReachableStatesMeetTheInvariant :
    (∃ t, Reached [] t ∧ (!t.txBusy && t.decState != .run) = true) ∧
    (∃ t, Reached [{ Inputs.quiet with rptValid := true, rptData := report [0x21#8, 5#8] }] t ∧
      t.ackPulse = true) :=
  ⟨reached_run _ 0 _ (by decide), reached_run _ 18 _ (by decide)⟩

theorem witness_ReportRunsSixteenGroupsInOrder :
    (runAt 0 [0x21#8, 5#8]).decState = .run ∧ (runAt 0 [0x21#8, 5#8]).decGrp = 0 ∧
    (runAt 0 [0x21#8, 5#8]).NoReset 16 :=
  ⟨by decide, by decide, noReset_of_no_inputs _ rfl _⟩

/-- Groups 0 and 1 both name LED 5; group 1 is the last. -/
theorem witness_LastGroupOfAnIndexWins :
    (runAt 0 [0x25#8, 1#8, 1#8, 1#8, 0x45#8, 2#8, 2#8, 2#8]).decState = .run ∧
    (runAt 0 [0x25#8, 1#8, 1#8, 1#8, 0x45#8, 2#8, 2#8, 2#8]).decGrp = 0 ∧
    (runAt 0 [0x25#8, 1#8, 1#8, 1#8, 0x45#8, 2#8, 2#8, 2#8]).NoReset 16 ∧
    (groupAt (report [0x25#8, 1#8, 1#8, 1#8, 0x45#8, 2#8, 2#8, 2#8]) 1).header ≠ 0x00#8 ∧
    (∀ i : Fin 16, 1 < i →
      (groupAt (report [0x25#8, 1#8, 1#8, 1#8, 0x45#8, 2#8, 2#8, 2#8]) i).header = 0x00#8) :=
  ⟨by decide, by decide, noReset_of_no_inputs _ rfl _, by decide, by decide⟩

theorem witness_FrameLastsExactly8176LineBits :
    LaunchEnabled asking ∧ asking.NoReset (8176 * asking.params.cellDiv + 1) ∧
    0 < 8176 * asking.params.cellDiv ∧ 16351 < 8176 * asking.params.cellDiv :=
  ⟨(launchDue_iff _).1 (by decide), noReset_of_no_inputs _ rfl _, by decide, by decide⟩

/-- The one coming input of `offering` has `rst = 0`. -/
theorem offering_noReset (n : Nat) : offering.NoReset n := by
  intro k _
  cases k <;> simp [State.inputAt, offering, State.withInput, asking, idle0, State.resetOf,
    Inputs.quiet]

/-- Whether the transmitter is busy after `n` cycles. -/
def busyAfter (n : Nat) (s : State) : Option Bool :=
  (after (Host.Core.run Sys2Proof.core n s)).map fun t : State => t.txBusy

/-- With a tick's request pending the transmitter is busy 17 cycles later; without, it is idle. -/
theorem witness_AcknowledgementAfterEighteenCycles_cases :
    busyAfter 17 offering = some true ∧
    busyAfter 17 { offering with reqBlink := false } = some false := by decide

theorem witness_AcknowledgementAfterEighteenCycles :
    (offering.decState = .idle ∧ offering.input.rptValid = true ∧ offering.NoReset 18) ∧
    (({ offering with reqBlink := false } : State).decState = .idle ∧
      ({ offering with reqBlink := false } : State).input.rptValid = true ∧
      ({ offering with reqBlink := false } : State).NoReset 18) :=
  ⟨⟨by decide, by decide, offering_noReset _⟩, ⟨by decide, by decide, fun k hk =>
    offering_noReset 18 k hk⟩⟩

theorem witness_AcknowledgementIsBounded :
    offering.Inv ∧ offering.decState = .idle ∧ offering.input.rptValid = true ∧
    offering.NoReset (8176 * offering.params.cellDiv + 2) :=
  ⟨⟨by decide, by decide, by decide, by decide⟩, by decide, by decide,
    offering_noReset _⟩

theorem witness_TickTimesFromReset (n : Nat) :
    ({ State.resetOf small with inputs := [] } : State).NoReset n :=
  noReset_of_no_inputs _ rfl _

/-- A request pending behind a frame in flight, and a waiting decoder. -/
theorem witness_PendingRequestIsServedInTime :
    State.Inv { busyAt 0 0 0 with reqBlink := true } ∧ State.Inv wait0 ∧ wait0.decState = .wait ∧
    State.NoReset { busyAt 0 0 0 with reqBlink := true } (8176 * small.cellDiv + 17) ∧
    wait0.NoReset (8176 * wait0.params.cellDiv + 17) :=
  ⟨⟨by decide, by decide, by decide, by decide⟩,
    ⟨by decide, by decide, by decide, by decide⟩, by decide,
    noReset_of_no_inputs _ rfl _, noReset_of_no_inputs _ rfl _⟩

end Sys2Proof.Tests
end

section
/-!
The invariant of R45: each named register update keeps it, so a cycle keeps it, so every state
reachable from reset meets it.
-/

namespace Sys2Proof.Machine

/-! ### Register updates -/

/-- The invariant speaks of the microstate, the acknowledgement and the transmitter alone. -/
theorem State.Inv.of_same {s t : State} (h : s.Inv) (hmicro : SameMicrostate s t)
    (hack : SameAck s t) (hline : SameLine s t) : t.Inv := by
  obtain ⟨hdec, hgrp⟩ := hmicro
  obtain ⟨hbusy, hbyte, hbit, hcell⟩ := hline
  unfold SameAck at hack
  constructor
  · simpa only [hbusy, hbyte, hbit, hcell] using h.idle_line
  · simpa only [hdec, hgrp] using h.idle_grp
  · simpa only [hack, hdec] using h.ack_idle
  · simpa only [hack, hbusy] using h.ack_busy

theorem resetOf_inv (p : Config.Params) : (State.resetOf p).Inv := by
  constructor <;> simp

theorem resetRegisters_inv (s : State) : s.resetRegisters.Inv :=
  (resetOf_inv s.params).of_same ⟨rfl, rfl⟩ rfl ⟨rfl, rfl, rfl, rfl⟩

theorem dropAck_inv {s : State} (h : s.Inv) : s.dropAck.Inv where
  idle_line := h.idle_line
  idle_grp := h.idle_grp
  ack_idle := by simp
  ack_busy := by simp

/-- A launch acknowledges exactly the decoder it takes from WAIT to IDLE, and the transmitter is busy
after it (R131, R132, R205). -/
theorem startFrame_inv {s : State} (h : s.Inv) : s.startFrame.Inv where
  idle_line := by simp
  idle_grp := fun hrun => h.idle_grp fun hs => hrun (by simp [hs])
  ack_idle := by simp +contextual
  ack_busy := by simp

/-- A shift leaves the transmitter idle only by completing the frame, with its counters 0
(R206, R207). -/
theorem shiftLine_idle_line {s : State} (hbusy : s.txBusy = true)
    (hidle : s.shiftLine.txBusy = false) :
    s.shiftLine.txByte = 0 ∧ s.shiftLine.txBit = 0 ∧ s.shiftLine.cellCnt = 0 := by
  rcases shiftLine_spec s with ⟨-, _, e⟩ | ⟨-, _, e⟩ | ⟨-, -, _, e⟩ | ⟨-, -, -, e⟩
  · simp [e, hbusy] at hidle
  · simp [e, hbusy] at hidle
  · simp [e, hbusy] at hidle
  · simp [e]

theorem shiftLine_inv {s : State} (h : s.Inv) (hbusy : s.txBusy = true)
    (hack : s.ackPulse = false) : s.shiftLine.Inv where
  idle_line := shiftLine_idle_line hbusy
  idle_grp := by simpa using h.idle_grp
  ack_idle := by simp [hack]
  ack_busy := by simp [hack]

/-- RUN is left only at group 15 (R123), and a decoder in RUN is not acknowledged. -/
theorem advanceGroup_inv {s : State} (h : s.Inv) (hrun : s.decState = .run) :
    s.advanceGroup.Inv := by
  have hack : s.ackPulse = false := by
    by_contra hne
    simpa [hrun] using h.ack_idle (by simpa using hne)
  constructor
  · simpa using h.idle_line
  · intro hne
    rcases advanceGroup_spec s with ⟨-, -, hdec⟩ | ⟨hgrp, hkeep, -⟩
    · exact absurd (hdec.trans hrun) hne
    · exact .inr (hkeep.trans (Fin.ext hgrp))
  · simp [hack]
  · simp [hack]

theorem groupStep_inv {s t : State} (h : t.Inv) (hrun : t.decState = .run) :
    (groupStep s t).Inv := by
  unfold groupStep
  split
  · exact advanceGroup_inv h hrun
  · exact advanceGroup_inv (h.of_same (by simp [SameMicrostate]) (by simp [SameAck])
      (by simp [SameLine])) (by simpa using hrun)

/-- A report may be taken unless the decoder is acknowledged at the same edge. -/
theorem captureReport_inv {s : State} (h : s.Inv) (hack : s.ackPulse = false)
    (data : Vector Byte 64) : (s.captureReport data).Inv where
  idle_line := h.idle_line
  idle_grp := by simp
  ack_idle := by simp [hack]
  ack_busy := by simp [hack]

/-! ### The parts of a cycle -/

theorem afterReaders_inv {s : State} (h : s.Inv) : (afterReaders s).Inv := by
  have hu : (s.dropAck.readPort s.input.rdIdx).Inv :=
    (dropAck_inv h).of_same ⟨rfl, rfl⟩ rfl ⟨rfl, rfl, rfl, rfl⟩
  unfold afterReaders
  dsimp only
  split
  · exact hu
  · split
    · exact startFrame_inv hu
    · split
      · next hbusy => exact shiftLine_inv hu hbusy rfl
      · exact hu

/-- Only the launch that serves a waiting decoder acknowledges (R131). -/
theorem afterReaders_ackPulse {s : State} (h : s.decState ≠ .wait) :
    (afterReaders s).ackPulse = false := by
  unfold afterReaders
  dsimp only
  split
  · rfl
  · split
    · simpa using h
    · split <;> simp

/-- A launch happens outside RUN, so a decoder in RUN stays there until its group is applied. -/
theorem afterReaders_run {s : State} (h : s.decState = .run) :
    (afterReaders s).decState = .run := by
  unfold afterReaders
  dsimp only
  split
  · exact h
  · split
    · simp [h]
    · split <;> simpa using h

theorem background_same (s t : State) :
    SameMicrostate t (s.background t) ∧ SameAck t (s.background t) ∧
      SameLine t (s.background t) := by
  unfold State.background
  split
  · exact ⟨⟨rfl, rfl⟩, rfl, rfl, rfl, rfl, rfl⟩
  · cases s.clearDue <;> cases s.tickDue <;> simp [SameMicrostate, SameAck, SameLine]

/-- The writers keep the invariant of the state they start from, if a group finds the decoder in RUN
and a report finds no acknowledgement. -/
theorem afterWriters_inv {s t : State} (h : t.Inv) (hrun : s.decState = .run → t.decState = .run)
    (hidle : s.decState = .idle → t.ackPulse = false) : (afterWriters s t).Inv := by
  unfold afterWriters
  split
  · exact resetRegisters_inv t
  · extract_lets a b c d
    have ha : a.Inv := by
      unfold a; split
      · next hs => exact groupStep_inv h (hrun hs)
      · exact h
    have hb : b.Inv := by
      unfold b; split
      · next hs =>
        have hat : a = t := if_neg (by simp [hs.2])
        exact captureReport_inv ha (hat ▸ hidle hs.2) _
      · exact ha
    have hc : c.Inv := by
      unfold c; split
      · exact hb.of_same ⟨rfl, rfl⟩ rfl ⟨rfl, rfl, rfl, rfl⟩
      · exact hb
    have hd : d.Inv := by
      unfold d; split
      · exact hc.of_same ⟨rfl, rfl⟩ rfl ⟨rfl, rfl, rfl, rfl⟩
      · exact hc
    split
    · exact hd.of_same ⟨rfl, rfl⟩ rfl ⟨rfl, rfl, rfl, rfl⟩
    · exact hd

/-! ### Steps and runs -/

theorem step_keeps_inv {s t : State} (h : s.Inv) (hstep : step s = .next t) : t.Inv := by
  obtain ⟨hmicro, hack, hline⟩ := background_same s (afterReaders s)
  have hwriters : (afterWriters s (beforeWriters s)).Inv := by
    apply afterWriters_inv ((afterReaders_inv h).of_same hmicro hack hline)
    · intro hrun
      exact hmicro.1.trans (afterReaders_run hrun)
    · intro hidle
      exact hack.trans (afterReaders_ackPulse (by simp [hidle]))
  rw [step_run] at hstep
  obtain rfl := Host.Outcome.next.inj hstep
  exact hwriters.of_same ⟨rfl, rfl⟩ rfl ⟨rfl, rfl, rfl, rfl⟩

theorem runs_keep_inv {n : Nat} {s t : State} (h : s.Inv) (hruns : Runs n s t) : t.Inv :=
  runs_keep State.Inv (fun _ _ => step_keeps_inv) n s t h hruns

/-- Settles O50: the invariant holds after reset and every step keeps it. -/
theorem reachableStatesMeetTheInvariant : Obligations.ReachableStatesMeetTheInvariant := by
  intro p is n t h
  have hreset : State.Inv { State.resetOf p with inputs := is } :=
    (resetOf_inv p).of_same ⟨rfl, rfl⟩ rfl ⟨rfl, rfl, rfl, rfl⟩
  obtain ⟨hline, hgrp, hidle, hbusy⟩ := runs_keep_inv hreset h
  exact ⟨hline, hgrp, hidle, hbusy⟩

end Sys2Proof.Machine
end

section
/-!
The packing of the report port (spec/20_memory.md R64): the bytes of a packed port are the packed
bytes, and a port value is determined by its bytes.
-/

namespace Sys2Proof

@[simp] theorem unpackReport_getElem (d : BitVec 512) (k : Nat) (h : k < 64) :
    (unpackReport d)[k] = reportByte d k := by
  simp [unpackReport]

/-- 64 bytes fit the port, so packing loses nothing. -/
theorem packReport_toNat (v : Vector Byte 64) : (packReport v).toNat = bytesValue v.toList := by
  have hlt : bytesValue v.toList < (2 ^ 8) ^ 64 := by simpa using bytesValue_lt v.toList
  simp only [← Nat.pow_mul, Nat.reduceMul] at hlt
  exact Nat.mod_eq_of_lt hlt

/-- Byte `k` of the port is digit `k` of its value in base 256. -/
theorem reportByte_toNat (d : BitVec 512) (k : Nat) :
    (reportByte d k).toNat = d.toNat / 256 ^ k % 256 := by
  simp [reportByte, Nat.shiftRight_eq_div_pow, Nat.pow_mul]

@[simp] theorem reportByte_packReport (v : Vector Byte 64) (k : Nat) (h : k < 64) :
    reportByte (packReport v) k = v[k] := by
  apply BitVec.eq_of_toNat_eq
  calc (reportByte (packReport v) k).toNat
      = bytesValue v.toList / 256 ^ k % 256 := by rw [reportByte_toNat, packReport_toNat]
    _ = (v.toList.getD k 0#8).toNat := bytesValue_digit v.toList k
    _ = v[k].toNat := by simp [List.getD_eq_getElem?_getD, h]

/-- Bit `i` of the port lies in byte `i / 8`. -/
theorem reportByte_getElem (d : BitVec 512) (i : Nat) (h : i < 512) :
    (reportByte d (i / 8))[i % 8] = d[i] := by
  simp [reportByte, Nat.div_add_mod, BitVec.getLsbD_eq_getElem h]

theorem eq_of_reportByte {d e : BitVec 512}
    (h : ∀ k, k < 64 → reportByte d k = reportByte e k) : d = e := by
  ext i hi
  rw [← reportByte_getElem d i hi, ← reportByte_getElem e i hi]
  simp only [h (i / 8) (by omega)]

theorem unpackReport_packReport (v : Vector Byte 64) : unpackReport (packReport v) = v := by
  ext k hk : 1
  simp [hk]

theorem packReport_unpackReport (d : BitVec 512) : packReport (unpackReport d) = d :=
  eq_of_reportByte fun k hk => by simp [hk]

end Sys2Proof

namespace Sys2Proof.Machine

/-- Settles O7: each byte of a packed port is the byte packed there, and the 64 bytes determine the
port value. -/
theorem reportPortPacking : Obligations.ReportPortPacking :=
  ⟨unpackReport_getElem, unpackReport_packReport, packReport_unpackReport,
    fun v => ⟨reportByte_packReport v 0 (by decide), reportByte_packReport v 63 (by decide)⟩⟩

end Sys2Proof.Machine
end

section
/-!
The header byte of a command group (spec/30_encoding.md R92 to R96): the value of a header from its
three fields, what the decoder selects for each of them, and the row of the table of R96 it lies in.
-/

namespace Sys2Proof

/-- `x` weighs 128, `ps` weighs 32 and `idx` 1 in a header's value (R92). -/
theorem header_toNat (h : Byte) :
    h.toNat = 128 * (headerX h).toNat + 32 * (headerPs h).toNat + (headerIdx h).toNat := by
  revert h; decide

theorem decodeGroup_of_header_zero {w : GroupWord} (h0 : w.header = 0x00#8) :
    decodeGroup w = .nop w.r w.g w.b := if_pos h0

/-! ### The four power states (R95) -/

section
variable {w : GroupWord} (h0 : w.header ≠ 0x00#8)
include h0

theorem decodeGroup_of_ps_zero (hps : headerPs w.header = 0#2) :
    decodeGroup w = .setOff (headerX w.header) (headerIdx w.header) w.r w.g w.b := by
  simp [decodeGroup, h0, hps]

theorem decodeGroup_of_ps_one (hps : headerPs w.header = 1#2) :
    decodeGroup w = .setOn (headerX w.header) (headerIdx w.header) w.r w.g w.b := by
  simp [decodeGroup, h0, hps]

theorem decodeGroup_of_ps_two (hps : headerPs w.header = 2#2) :
    decodeGroup w = .setBlink (headerX w.header) (headerIdx w.header) w.r w.g w.b := by
  simp [decodeGroup, h0, hps]

theorem decodeGroup_of_ps_three (hps : headerPs w.header = 3#2) :
    decodeGroup w = .setPs3 (headerX w.header) (headerIdx w.header) w.r w.g w.b := by
  simp [decodeGroup, h0, hps]

end

/-! ### Which headers select `NOP` and `SET.OFF` -/

theorem header_of_decodeGroup_nop {w : GroupWord} {r g b : Byte}
    (h : decodeGroup w = .nop r g b) : w.header = 0x00#8 := by
  by_contra h0
  rcases Machine.psCode_cases (headerPs w.header) with hps | hps | hps | hps
  · simp [decodeGroup_of_ps_zero h0 hps] at h
  · simp [decodeGroup_of_ps_one h0 hps] at h
  · simp [decodeGroup_of_ps_two h0 hps] at h
  · simp [decodeGroup_of_ps_three h0 hps] at h

/-- A `SET.OFF` carries the two fields of its header that are left open by `ps = 0`. -/
theorem header_of_decodeGroup_setOff {w : GroupWord} {x : Bool} {idx : LedIdx} {r g b : Byte}
    (h : decodeGroup w = .setOff x idx r g b) :
    w.header ≠ 0x00#8 ∧ w.header = mkHeader x 0#2 idx := by
  by_cases h0 : w.header = 0x00#8
  · simp [decodeGroup_of_header_zero h0] at h
  rcases Machine.psCode_cases (headerPs w.header) with hps | hps | hps | hps
  · rw [decodeGroup_of_ps_zero h0 hps] at h
    obtain ⟨rfl, rfl, -⟩ := Instr.setOff.inj h
    exact ⟨h0, by rw [← hps, mkHeader_fields]⟩
  · simp [decodeGroup_of_ps_one h0 hps] at h
  · simp [decodeGroup_of_ps_two h0 hps] at h
  · simp [decodeGroup_of_ps_three h0 hps] at h

/-- Bit 7 keeps `SET.OFF` of LED 0 apart from `NOP`, so it has one header only (R96). -/
theorem header_of_decodeGroup_setOff_led_zero {w : GroupWord} {x : Bool} {r g b : Byte}
    (h : decodeGroup w = .setOff x 0#5 r g b) : w.header = 0x80#8 := by
  obtain ⟨h0, hmk⟩ := header_of_decodeGroup_setOff h
  cases x with
  | false => exact absurd (hmk.trans ((mkHeader_eq_zero ..).2 ⟨rfl, rfl, rfl⟩)) h0
  | true => exact hmk.trans (by decide)

end Sys2Proof

namespace Sys2Proof.Machine

/-! ### The rows of the header table (R96)

Bit 7 chooses between the two rows of a power state. -/

/-- The rows 0x01 to 0x1F and 0x80 to 0x9F. -/
theorem headerRow_of_ps_zero {h : Byte} (h0 : h ≠ 0x00#8) (hps : headerPs h = 0#2) (r g b : Byte) :
    headerRow h.toNat r g b = .setOff (headerX h) (headerIdx h) r g b := by
  have hidx := (headerIdx h).isLt
  have hpos : h.toNat ≠ 0 := fun e => h0 (BitVec.eq_of_toNat_eq e)
  rw [header_toNat h, hps] at hpos ⊢
  cases hx : headerX h with
  | false =>
    have hpos' : (headerIdx h).toNat ≠ 0 := by simpa [hx] using hpos
    simp (disch := omega) [headerRow, if_pos, if_neg]
  | true => simp (disch := omega) [headerRow, if_pos, if_neg]

/-- The rows 0x20 to 0x3F and 0xA0 to 0xBF. -/
theorem headerRow_of_ps_one {h : Byte} (hps : headerPs h = 1#2) (r g b : Byte) :
    headerRow h.toNat r g b = .setOn (headerX h) (headerIdx h) r g b := by
  have hidx := (headerIdx h).isLt
  rw [header_toNat h, hps]
  cases headerX h <;> simp (disch := omega) [headerRow, if_pos, if_neg]

/-- The rows 0x40 to 0x5F and 0xC0 to 0xDF. -/
theorem headerRow_of_ps_two {h : Byte} (hps : headerPs h = 2#2) (r g b : Byte) :
    headerRow h.toNat r g b = .setBlink (headerX h) (headerIdx h) r g b := by
  have hidx := (headerIdx h).isLt
  rw [header_toNat h, hps]
  cases headerX h <;> simp (disch := omega) [headerRow, if_pos, if_neg]

/-- The rows 0x60 to 0x7F and 0xE0 to 0xFF. -/
theorem headerRow_of_ps_three {h : Byte} (hps : headerPs h = 3#2) (r g b : Byte) :
    headerRow h.toNat r g b = .setPs3 (headerX h) (headerIdx h) r g b := by
  have hidx := (headerIdx h).isLt
  rw [header_toNat h, hps]
  cases headerX h <;> simp (disch := omega) [headerRow, if_pos, if_neg]

theorem decodeGroup_eq_headerRow (w : GroupWord) :
    decodeGroup w = headerRow w.header.toNat w.r w.g w.b := by
  by_cases h0 : w.header = 0x00#8
  · simp [decodeGroup_of_header_zero h0, h0, headerRow]
  rcases psCode_cases (headerPs w.header) with hps | hps | hps | hps
  · rw [decodeGroup_of_ps_zero h0 hps, headerRow_of_ps_zero h0 hps]
  · rw [decodeGroup_of_ps_one h0 hps, headerRow_of_ps_one hps]
  · rw [decodeGroup_of_ps_two h0 hps, headerRow_of_ps_two hps]
  · rw [decodeGroup_of_ps_three h0 hps, headerRow_of_ps_three hps]

/-- Settles O5: decoder and table agree at every header by its power state, the counts are taken over
the 256 headers, and the one header of `SET.OFF` of LED 0 is read off its fields. -/
theorem headerTableIsDecoded : Obligations.HeaderTableIsDecoded :=
  ⟨decodeGroup_eq_headerRow, by decide, by decide, by decide, by decide, by decide,
    fun _ _ _ _ _ => header_of_decodeGroup_setOff_led_zero⟩

/-- Settles O3: header 0x00 decodes to `NOP`, and every other header to one of the four `SET`s. -/
theorem nopIsExactlyTheZeroHeader : Obligations.NopIsExactlyTheZeroHeader := fun _ =>
  ⟨fun ⟨_, _, _, h⟩ => header_of_decodeGroup_nop h,
    fun h0 => ⟨_, _, _, decodeGroup_of_header_zero h0⟩⟩

/-- Settles O4: bits 6:5 are the power-state field of the decoder. -/
theorem setOperationChosenByPowerStateBits : Obligations.SetOperationChosenByPowerStateBits :=
  fun _ h0 =>
    ⟨fun hps => ⟨_, _, decodeGroup_of_ps_zero h0 hps⟩,
      fun hps => ⟨_, _, decodeGroup_of_ps_one h0 hps⟩,
      fun hps => ⟨_, _, decodeGroup_of_ps_two h0 hps⟩,
      fun hps => ⟨_, _, decodeGroup_of_ps_three h0 hps⟩⟩

end Sys2Proof.Machine
end

section
/-!
The four `SET` operations (spec/40_command_decoder.md R125 to R128): what each stores in a RUN cycle,
and how an entry of each power state renders.
-/

namespace Sys2Proof

/-- Only a header with `ps = 0` can be the `NOP` header. -/
theorem header_ne_zero_of_ps {h : Byte} (hps : headerPs h ≠ 0#2) : h ≠ 0x00#8 := by
  rintro rfl
  exact hps (by decide)

end Sys2Proof

namespace Sys2Proof.Machine

/-! ### Rendering by power state (R180) -/

theorem eff_of_ps_zero {e : Entry} (hps : e.ps = 0#2) (ph : Bool) : eff e ph = black := by
  simp [eff, hps]

theorem eff_of_ps_two {e : Entry} (hps : e.ps = 2#2) (ph : Bool) :
    eff e ph = if ph then e.colour else black := by
  simp [eff, hps]

theorem eff_of_ps_three {e : Entry} (hps : e.ps = 3#2) (ph : Bool) : eff e ph = black := by
  simp [eff, hps]

/-! ### The store -/

theorem groupFrame_tableWrite_advanceGroup (s : State) (idx : Nat) (e : Entry) :
    GroupFrame s (s.tableWrite idx e).advanceGroup := by
  simp [GroupFrame, SameBlink, SameReport, SameAck, SameStrobes, SameSnap, SameLine, SameHost]

/-- What the four `SET` operations share: the entry is written, and only the microstate moves. -/
theorem storeGroup_writes {s : State} (hrun : s.decState = .run) (idx : LedIdx) (e : Entry) :
    ∃ t, storeGroup idx e s = .next t ∧ EntryWritten s t idx e ∧ GroupFrame s t := by
  refine ⟨_, if_pos hrun, fun k => ?_, groupFrame_tableWrite_advanceGroup s idx.toNat e⟩
  rw [State.advanceGroup_T, readEntry_tableWrite_idx]

@[simp] theorem exec_setOff (x : Bool) (idx : LedIdx) (r g b : Byte) (s : State) :
    exec (.setOff x idx r g b) s = storeGroup idx ⟨r, g, b, 0#2⟩ s := rfl

@[simp] theorem exec_setOn (x : Bool) (idx : LedIdx) (r g b : Byte) (s : State) :
    exec (.setOn x idx r g b) s = storeGroup idx ⟨r, g, b, 1#2⟩ s := rfl

@[simp] theorem exec_setBlink (x : Bool) (idx : LedIdx) (r g b : Byte) (s : State) :
    exec (.setBlink x idx r g b) s = storeGroup idx ⟨r, g, b, 2#2⟩ s := rfl

@[simp] theorem exec_setPs3 (x : Bool) (idx : LedIdx) (r g b : Byte) (s : State) :
    exec (.setPs3 x idx r g b) s = storeGroup idx ⟨r, g, b, 3#2⟩ s := rfl

/-! ### The obligations -/

/-- Settles O11: the store shared by the `SET`s, and the decoder at power state 0. -/
theorem setOffStoresItsEntry : Obligations.SetOffStoresItsEntry := by
  refine ⟨fun s x idx r g b hrun => ?_, fun w h0 hps => decodeGroup_of_ps_zero h0 hps,
    fun w x r g b => header_of_decodeGroup_setOff_led_zero, fun r g b => eff_of_ps_zero rfl⟩
  rw [exec_setOff]
  exact storeGroup_writes hrun idx _

/-- Settles O12: the store does not read header bit 7, and `ps = 1` excludes the `NOP` header. -/
theorem setOnStoresItsEntry : Obligations.SetOnStoresItsEntry := by
  refine ⟨fun s x idx r g b hrun => ?_, fun w (hps : headerPs w.header = 1#2) =>
    decodeGroup_of_ps_one (header_ne_zero_of_ps (by simp [hps])) hps⟩
  rw [exec_setOn]
  exact storeGroup_writes hrun idx _

/-- Settles O13: code 2 renders as the colour in the on-phase only. -/
theorem setBlinkStoresItsEntry : Obligations.SetBlinkStoresItsEntry := by
  refine ⟨fun s x idx r g b hrun => ?_, fun w (hps : headerPs w.header = 2#2) =>
    decodeGroup_of_ps_two (header_ne_zero_of_ps (by simp [hps])) hps,
    fun r g b => ⟨eff_of_ps_two rfl true, eff_of_ps_two rfl false⟩⟩
  rw [exec_setBlink]
  exact storeGroup_writes hrun idx _

/-- Settles O14: code 3 is stored as it is, so the read port returns it. -/
theorem setPs3StoresItsEntry : Obligations.SetPs3StoresItsEntry := by
  refine ⟨fun s x idx r g b hrun => ?_, fun w (hps : headerPs w.header = 3#2) =>
    decodeGroup_of_ps_three (header_ne_zero_of_ps (by simp [hps])) hps,
    fun r g b => eff_of_ps_three rfl⟩
  obtain ⟨t, hexec, hwritten, hframe⟩ := storeGroup_writes hrun idx ⟨r, g, b, 3#2⟩
  refine ⟨t, (exec_setPs3 x idx r g b s).trans hexec, hwritten, hframe, fun i hi => ?_⟩
  have hread : readEntry t.T i.rdIdx.toNat = ⟨r, g, b, 3#2⟩ := by rw [hwritten, if_pos hi]
  simp [out, hread]

end Sys2Proof.Machine
end

section
/-!
The decoder in one cycle (spec/40_command_decoder.md R121 to R133): what a cycle does to the table,
the microstate and the captured report, said once for every cycle and then for each microstate.
-/

namespace Sys2Proof.Machine

/-- What the decoder's rules read and write agrees, and the coming inputs. -/
def SameDecoder (s t : State) : Prop :=
  SameMicrostate s t ∧ SameReport s t ∧ t.T = s.T ∧ t.inputs = s.inputs

/-- The decoder's own part of the writers of the cycle that starts in `s`, applied to `t`. -/
def decoderStep (s t : State) : State :=
  match s.decState with
  | .idle => if s.input.rptValid then t.captureReport s.input.rptData else t
  | .run => groupStep s t
  | .wait => t

/-! ### The state the writers start from -/

/-- The readers write none of the decoder's state but `dec_state`. -/
theorem afterReaders_frame (s : State) :
    (afterReaders s).T = s.T ∧ (afterReaders s).decGrp = s.decGrp ∧
      (afterReaders s).rptBuf = s.rptBuf ∧ (afterReaders s).inputs = s.inputs := by
  unfold afterReaders
  dsimp only
  split
  · simp
  · split
    · simp
    · split <;> simp

theorem background_rptBuf_inputs (s t : State) :
    (s.background t).rptBuf = t.rptBuf ∧ (s.background t).inputs = t.inputs := by
  unfold State.background
  split
  · simp
  · cases s.clearDue <;> cases s.tickDue <;> simp

theorem beforeWriters_frame (s : State) :
    (beforeWriters s).decGrp = s.decGrp ∧ (beforeWriters s).rptBuf = s.rptBuf ∧
      (beforeWriters s).inputs = s.inputs := by
  obtain ⟨-, hgrp, hbuf, hinputs⟩ := afterReaders_frame s
  obtain ⟨⟨-, hgrp'⟩, -⟩ := background_same s (afterReaders s)
  obtain ⟨hbuf', hinputs'⟩ := background_rptBuf_inputs s (afterReaders s)
  exact ⟨hgrp'.trans hgrp, hbuf'.trans hbuf, hinputs'.trans hinputs⟩

section
variable {s : State} (hrst : s.input.rst = false)
include hrst

/-- A launch ends WAIT (R132); nothing else before the writers moves the microstate. -/
theorem beforeWriters_decState :
    (beforeWriters s).decState =
      if s.launchDue ∧ s.decState = .wait then .idle else s.decState := by
  obtain ⟨⟨hkeep, -⟩, -⟩ := background_same s (afterReaders s)
  rw [beforeWriters, hkeep, afterReaders]
  simp only [hrst, Bool.false_eq_true, if_false]
  split
  · next hlaunch => by_cases hwait : s.decState = .wait <;> simp [hlaunch, hwait]
  · next hlaunch => split <;> simp [hlaunch]

/-- A pending clear is applied in IDLE (spec/41_table_port.md R157). -/
theorem beforeWriters_T :
    (beforeWriters s).T = if s.clearDue then Vector.replicate 32 offEntry else s.T := by
  unfold beforeWriters State.background
  simp only [hrst, Bool.false_eq_true, if_false]
  cases s.clearDue <;> cases s.tickDue <;> simp [afterReaders_frame]

/-! ### The cycle -/

/-- The tick and the strobes leave the decoder's state. -/
theorem afterWriters_decoder (t : State) : SameDecoder (decoderStep s t) (afterWriters s t) := by
  have hparts : decoderStep s t =
      let a := if s.decState = .run then groupStep s t else t
      if s.input.rptValid ∧ s.decState = .idle then a.captureReport s.input.rptData else a := by
    unfold decoderStep
    cases s.decState <;> simp
  unfold afterWriters
  simp only [hrst, Bool.false_eq_true, if_false]
  rw [hparts]
  cases s.tickDue <;> cases s.input.clr <;> cases s.input.renderReq <;>
    simp [SameDecoder, SameMicrostate, SameReport]

theorem step_decoder :
    ∃ t, step s = .next t ∧ SameDecoder (decoderStep s (beforeWriters s)).popInput t := by
  obtain ⟨hmicro, hrpt, hT, hinputs⟩ := afterWriters_decoder hrst (beforeWriters s)
  exact ⟨_, step_run s, hmicro, hrpt, hT, congrArg List.tail hinputs⟩

end

/-! ### One group -/

theorem tableWrite_idx_T (s : State) (idx : LedIdx) (e : Entry) :
    (s.tableWrite idx.toNat e).T = s.T.set idx.toNat e idx.isLt := by
  unfold State.tableWrite
  rw [dif_pos idx.isLt]

/-- A group's effect on the table is its plain form (R124 to R128). -/
theorem groupStep_T (s t : State) : (groupStep s t).T = applyGroup t.T s.muxGroup := by
  unfold groupStep applyGroup
  split
  · simp
  · ext k hk : 1
    simp [tableWrite_idx_T, Vector.getElem_set, groupEntry]

theorem groupStep_frame (s t : State) :
    (groupStep s t).rptBuf = t.rptBuf ∧ (groupStep s t).inputs = t.inputs := by
  unfold groupStep
  split <;> simp

theorem advanceGroup_nextGroup {s : State} (hrun : s.decState = .run) :
    NextGroup s s.advanceGroup := by
  unfold NextGroup
  rcases advanceGroup_spec s with ⟨hlt, hnext, hkeep⟩ | ⟨hlast, hkeep, hwait⟩
  · rw [if_neg (by omega)]
    exact ⟨hkeep.trans hrun, hnext⟩
  · rw [if_pos hlast]
    exact ⟨hwait, hkeep⟩

/-- The microstate moves on after every group, whatever it contains (R123). -/
theorem groupStep_nextGroup (s : State) {t : State} (hrun : t.decState = .run) :
    NextGroup t (groupStep s t) := by
  unfold groupStep
  split
  · exact advanceGroup_nextGroup hrun
  · simpa only [NextGroup, State.tableWrite_decGrp] using
      advanceGroup_nextGroup ((State.tableWrite_decState t _ _).trans hrun)

/-- A RUN cycle applies one group, moves the microstate on and keeps the report (R122, R123). -/
theorem step_decoder_of_run {s : State} (hrst : s.input.rst = false) (hrun : s.decState = .run) :
    ∃ t, step s = .next t ∧ NextGroup s t ∧ t.T = applyGroup s.T s.muxGroup ∧
      t.rptBuf = s.rptBuf ∧ t.inputs = s.inputs.tail := by
  obtain ⟨t, hstep, ⟨hdec, hgrp⟩, hrpt, hT, hinputs⟩ := step_decoder hrst
  have hbefore : (beforeWriters s).decState = .run := by simp [beforeWriters_decState hrst, hrun]
  have hclear : s.clearDue = false := by simp [State.clearDue, hrun]
  have hnext := groupStep_nextGroup s hbefore
  obtain ⟨hgrp', hbuf', hinputs'⟩ := beforeWriters_frame s
  obtain ⟨hbuf, hins⟩ := groupStep_frame s (beforeWriters s)
  simp only [decoderStep, hrun, SameReport, State.popInput_decState, State.popInput_decGrp,
    State.popInput_rptBuf, State.popInput_T, State.popInput_inputs] at hdec hgrp hrpt hT hinputs
  refine ⟨t, hstep, ?_, ?_, ?_, ?_⟩
  · simpa only [NextGroup, hdec, hgrp, hgrp'] using hnext
  · rw [hT, groupStep_T, beforeWriters_T hrst, hclear]; simp
  · rw [hrpt, hbuf, hbuf']
  · rw [hinputs, hins, hinputs']

/-! ### The table of R133 -/

/-- A cleared table reads `OFF_ENTRY` everywhere (spec/41_table_port.md R157). -/
theorem readEntry_beforeWriters_of_idle {s : State} (hrst : s.input.rst = false)
    (hidle : s.decState = .idle) (k : Nat) :
    readEntry (beforeWriters s).T k = if s.clrPend then offEntry else readEntry s.T k := by
  rw [beforeWriters_T hrst]
  cases hclr : s.clrPend <;> simp [State.clearDue, hclr, hidle]

/-- In WAIT the table holds, and only a launch moves the microstate (R132). -/
theorem step_decoder_of_wait {s : State} (hrst : s.input.rst = false) (hwait : s.decState = .wait) :
    ∃ t, step s = .next t ∧ t.decState = (if s.launchDue then .idle else .wait) ∧
      t.decGrp = s.decGrp ∧ t.T = s.T := by
  obtain ⟨t, hstep, ⟨hdec, hgrp⟩, -, hT, -⟩ := step_decoder hrst
  have hclear : s.clearDue = false := by simp [State.clearDue, hwait]
  simp only [decoderStep, hwait, State.popInput_decState, State.popInput_decGrp,
    State.popInput_T] at hdec hgrp hT
  refine ⟨t, hstep, ?_, ?_, ?_⟩
  · rw [hdec, beforeWriters_decState hrst]; simp [hwait]
  · exact hgrp.trans (beforeWriters_frame s).1
  · rw [hT, beforeWriters_T hrst, hclear]; simp

/-- In IDLE a pending clear is applied, and a report offered is taken (R121). -/
theorem step_decoder_of_idle {s : State} (hrst : s.input.rst = false) (hidle : s.decState = .idle) :
    ∃ t, step s = .next t ∧ t.decState = (if s.input.rptValid then .run else .idle) ∧
      t.decGrp = (if s.input.rptValid then 0 else s.decGrp) ∧
      ∀ k, readEntry t.T k = if s.clrPend = true then offEntry else readEntry s.T k := by
  obtain ⟨t, hstep, ⟨hdec, hgrp⟩, -, hT, -⟩ := step_decoder hrst
  have hbefore : (beforeWriters s).decState = .idle := by
    simp [beforeWriters_decState hrst, hidle]
  have hread := readEntry_beforeWriters_of_idle hrst hidle
  simp only [decoderStep, hidle] at hdec hgrp hT
  refine ⟨t, hstep, ?_⟩
  cases hvalid : s.input.rptValid with
  | false =>
    simp only [hvalid, Bool.false_eq_true, if_false] at hdec hgrp hT
    exact ⟨hdec.trans hbefore, hgrp.trans (beforeWriters_frame s).1, fun k => hT ▸ hread k⟩
  | true =>
    simp only [hvalid, if_true] at hdec hgrp hT
    exact ⟨hdec, hgrp, fun k => hT ▸ hread k⟩

/-- Settles O40: one lemma for each microstate, which holds the two rows of that microstate. -/
theorem decoderTransitions : Obligations.DecoderTransitions := by
  intro s hrst
  cases hmicro : s.decState with
  | idle =>
    obtain ⟨t, hstep, hdec, hgrp, hread⟩ := step_decoder_of_idle hrst hmicro
    refine ⟨t, hstep, fun _ hvalid => ?_, fun _ hvalid => ?_, nofun, nofun, nofun, nofun⟩
    · exact ⟨by simpa [hvalid] using hdec, by simpa [hvalid] using hgrp, hread⟩
    · exact ⟨by simpa [hvalid] using hdec, by simpa [hvalid] using hgrp, hread⟩
  | run =>
    obtain ⟨t, hstep, hnext, hT, -, -⟩ := step_decoder_of_run hrst hmicro
    unfold NextGroup at hnext
    refine ⟨t, hstep, nofun, nofun, fun _ hlt => ?_, fun _ hlast => ?_, nofun, nofun⟩
    · rw [if_neg (by omega)] at hnext
      exact ⟨hnext.1, hnext.2, hT⟩
    · rw [if_pos hlast] at hnext
      exact ⟨hnext.1, hnext.2, hT⟩
  | wait =>
    obtain ⟨t, hstep, hdec, hgrp, hT⟩ := step_decoder_of_wait hrst hmicro
    have htable : SameTable s t := fun k => by rw [hT]
    refine ⟨t, hstep, nofun, nofun, nofun, nofun, fun _ hno => ?_, fun _ hlaunch => ?_⟩
    · exact ⟨by rw [hdec, if_neg (mt (launchDue_iff s).1 hno)], hgrp, htable⟩
    · exact ⟨by rw [hdec, if_pos ((launchDue_iff s).2 hlaunch)], hgrp, htable⟩

end Sys2Proof.Machine
end

section
/-!
The run of a captured report (spec/40_command_decoder.md R123): a RUN cycle applies one group, so
the induction over the cycles applies the groups in ascending order.
-/

namespace Sys2Proof.Machine

/-- The group of the current cycle is applied after the groups before it. -/
theorem applyGroups_succ (T : Vector Entry 32) (buf : Vector Byte 64) (i : Fin 16) :
    applyGroups T buf (i.val + 1) = applyGroup (applyGroups T buf i.val) (groupAt buf i) :=
  dif_pos i.isLt

/-- After `n` cycles the input is the one the host drives `n` cycles from the start. -/
theorem input_of_inputs_drop {s t : State} {n : Nat} (h : t.inputs = s.inputs.drop n) :
    t.input = s.inputAt n := by
  simp [State.input, State.inputAt, h, List.headD_eq_head?_getD, List.getD_eq_getElem?_getD]

/-- `t` comes `n` cycles after `s`: the groups before group `n` of the report that `s` holds are
applied, and the report and the coming inputs are those of `s`. -/
structure GroupsApplied (s : State) (n : Nat) (t : State) : Prop where
  runs : Runs n s t
  rptBuf : t.rptBuf = s.rptBuf
  inputs : t.inputs = s.inputs.drop n
  table : t.T = applyGroups s.T s.rptBuf n

theorem GroupsApplied.zero (s : State) : GroupsApplied s 0 s where
  runs := (runs_zero s s).2 rfl
  rptBuf := rfl
  inputs := rfl
  table := rfl

/-- One more RUN cycle applies one more group. -/
theorem GroupsApplied.succ {s t : State} {n : Nat} (h : GroupsApplied s n t)
    (hrun : t.decState = .run) (hgrp : t.decGrp.val = n) (hrst : (s.inputAt n).rst = false) :
    ∃ u, GroupsApplied s (n + 1) u ∧ NextGroup t u := by
  have hrst' : t.input.rst = false := by rwa [input_of_inputs_drop h.inputs]
  obtain ⟨u, hstep, hnext, hT, hbuf, hinputs⟩ := step_decoder_of_run hrst' hrun
  refine ⟨u, ⟨runs_snoc n s t u h.runs hstep, hbuf.trans h.rptBuf, ?_, ?_⟩, hnext⟩
  · rw [hinputs, h.inputs, List.tail_drop]
  · subst hgrp
    rw [hT, State.muxGroup, h.table, h.rptBuf, applyGroups_succ]

/-- Before group 16 the decoder stays in RUN, at the group of the cycle. -/
theorem groupsApplied_in_run {s : State} (hrun : s.decState = .run) (hgrp : s.decGrp = 0)
    (hreset : s.NoReset 16) (n : Nat) (hn : n < 16) :
    ∃ t, GroupsApplied s n t ∧ t.decState = .run ∧ t.decGrp.val = n := by
  induction n with
  | zero => exact ⟨s, .zero s, hrun, by simp [hgrp]⟩
  | succ n ih =>
    obtain ⟨t, happlied, hrun', hgrp'⟩ := ih (by omega)
    obtain ⟨u, happlied', hnext⟩ := happlied.succ hrun' hgrp' (hreset n (by omega))
    rw [NextGroup, if_neg (by omega), hgrp'] at hnext
    exact ⟨u, happlied', hnext⟩

/-- Settles O51, by induction on the cycles of RUN; the sixteenth cycle ends in WAIT. -/
theorem reportRunsSixteenGroupsInOrder : Obligations.ReportRunsSixteenGroupsInOrder := by
  intro s hrun hgrp hreset
  constructor
  · intro n hn
    obtain ⟨t, happlied, hrun', hgrp'⟩ := groupsApplied_in_run hrun hgrp hreset n hn
    exact ⟨t, happlied.runs, hrun', hgrp', happlied.rptBuf, happlied.table⟩
  · obtain ⟨t, happlied, hrun', hgrp'⟩ := groupsApplied_in_run hrun hgrp hreset 15 (by omega)
    obtain ⟨u, happlied', hnext⟩ := happlied.succ hrun' hgrp' (hreset 15 (by omega))
    rw [NextGroup, if_pos hgrp'] at hnext
    exact ⟨u, happlied'.runs, hnext.1, hnext.2.trans (Fin.ext hgrp'), happlied'.table⟩

end Sys2Proof.Machine
end

section
/-!
The table's write and read ports (spec/41_table_port.md R150 to R157): what a group does to one entry,
who may change an entry in one step, and what the read port carries.
-/

namespace Sys2Proof.Machine

/-! ### The writers of an entry -/

/-- A group sets the entry its nonzero header names and no other (spec/40_command_decoder.md R124 to
R128). -/
theorem readEntry_applyGroup (T : Vector Entry 32) (w : GroupWord) (k : Nat) :
    readEntry (applyGroup T w) k =
      if w.header ≠ 0x00#8 ∧ k = (headerIdx w.header).toNat then
        ⟨w.r, w.g, w.b, headerPs w.header⟩
      else readEntry T k := by
  by_cases h0 : w.header = 0x00#8
  · simp [applyGroup, h0]
  · by_cases hk : k < 32
    · simp [applyGroup, h0, hk, readEntry_of_lt, eq_comm]
    · have hidx := (headerIdx w.header).isLt
      have hne : k ≠ (headerIdx w.header).toNat := by omega
      simp [hne, readEntry_of_ge, Nat.not_lt.mp hk]

/-- Reset overrides every write of the table (R152). -/
theorem step_T_of_reset {s : State} (hrst : s.input.rst = true) :
    ∃ t, step s = .next t ∧ t.T = Vector.replicate 32 offEntry :=
  ⟨_, step_run s, by simp [afterWriters, hrst]⟩

/-- Settles O44: one case for reset and one for each microstate, as each has one writer at most; in
WAIT there is none. -/
theorem tableWritersAreExclusive : Obligations.TableWritersAreExclusive := by
  intro s t hstep k hchange
  cases hrst : s.input.rst with
  | true =>
    obtain ⟨u, hu, hT⟩ := step_T_of_reset hrst
    obtain rfl := Host.Outcome.next.inj (hstep.symm.trans hu)
    exact .inl ⟨rfl, by rw [hT, readEntry_replicate]⟩
  | false =>
    cases hmicro : s.decState with
    | run =>
      obtain ⟨u, hu, -, hT, -⟩ := step_decoder_of_run hrst hmicro
      obtain rfl := Host.Outcome.next.inj (hstep.symm.trans hu)
      rw [hT, readEntry_applyGroup] at hchange
      obtain ⟨hheader, hk⟩ := (ite_ne_right_iff.1 hchange).1
      exact .inr (.inl ⟨rfl, rfl, hheader, hk⟩)
    | idle =>
      obtain ⟨u, hu, -, -, hread⟩ := step_decoder_of_idle hrst hmicro
      obtain rfl := Host.Outcome.next.inj (hstep.symm.trans hu)
      rw [hread] at hchange
      have hclr := (ite_ne_right_iff.1 hchange).1
      exact .inr (.inr ⟨rfl, rfl, hclr, by rw [hread, if_pos hclr]⟩)
    | wait =>
      obtain ⟨u, hu, -, -, hT⟩ := step_decoder_of_wait hrst hmicro
      obtain rfl := Host.Outcome.next.inj (hstep.symm.trans hu)
      exact absurd (by rw [hT]) hchange

/-! ### The read port -/

@[simp] theorem exec_get (idx : Byte) (s : State) : exec (.get idx) s = .next (s.readPort idx) := rfl

/-- The read data is no register (R154). -/
theorem sameRegisters_readPort (s : State) (idx : Byte) : SameRegisters s (s.readPort idx) := by
  simp [SameRegisters, SameTable, SameBlink, SameMicrostate, SameReport, SameAck, SameStrobes,
    SameSnap, SameLine]

/-- The read outputs are the fields of the addressed entry (R154). -/
theorem out_rd (s : State) (i : Inputs) {e : Entry} (h : readEntry s.T i.rdIdx.toNat = e) :
    (out s i).rdR = e.r ∧ (out s i).rdG = e.g ∧ (out s i).rdB = e.b ∧ (out s i).rdPs = e.ps := by
  subst h
  exact ⟨rfl, rfl, rfl, rfl⟩

/-- Settles O23: the read outputs are the entry's fields, in range and past the end. -/
theorem readPortCarriesTheEntry : Obligations.ReadPortCarriesTheEntry :=
  ⟨fun s i => ⟨fun h => out_rd s i (readEntry_of_lt s.T _ h),
      fun h => out_rd s i (readEntry_of_ge s.T _ h)⟩,
    fun s idx => ⟨_, exec_get idx s, sameRegisters_readPort s idx⟩⟩

end Sys2Proof.Machine
end

section
/-!
The blink timer in one cycle (spec/42_blink_timer.md R170 to R172): without reset, only the
count and the tick write its divider and phase, whatever table, decoder and transmitter are doing.
-/

namespace Sys2Proof.Machine

/-- The same divider and phase, with the period they run to. -/
def SameTimer (s t : State) : Prop :=
  t.phase = s.phase ∧ t.blinkCnt = s.blinkCnt ∧ t.params = s.params

/-- The readers, a launch among them, leave the timer. -/
theorem afterReaders_timer (s : State) : SameTimer s (afterReaders s) := by
  unfold afterReaders
  cases s.input.rst <;> cases s.launchDue <;> cases s.txBusy <;> simp [SameTimer]

theorem groupStep_timer (s t : State) : SameTimer t (groupStep s t) := by
  unfold groupStep
  split <;> simp [SameTimer]

section
variable {s : State} (hrst : s.input.rst = false)
include hrst

/-- Before the writers the divider counts, except in a cycle that ticks; the phase waits for the
tick (R171). -/
theorem beforeWriters_timer :
    (beforeWriters s).phase = s.phase ∧
      (beforeWriters s).blinkCnt = if s.tickDue then s.blinkCnt else s.blinkCnt + 1 := by
  obtain ⟨hphase, hcnt, hparams⟩ := afterReaders_timer s
  unfold beforeWriters State.background
  simp only [hrst, Bool.false_eq_true, if_false]
  cases htick : s.tickDue with
  | true => cases s.clearDue <;> simp [hphase, hcnt]
  | false =>
    have hlt := s.blinkCnt_succ_lt htick
    cases s.clearDue <;> simp [hphase, hcnt, hparams, hlt]

/-- Of the writers only the tick acts on the timer: it restarts the divider and toggles the phase
(R171, R172). -/
theorem afterWriters_timer (t : State) :
    (afterWriters s t).phase = (if s.tickDue then !t.phase else t.phase) ∧
      (afterWriters s t).blinkCnt = if s.tickDue then 0 else t.blinkCnt := by
  rw [afterWriters, if_neg (by simp [hrst])]
  extract_lets a b c d
  have ha : SameTimer t a := by
    unfold a; split
    · exact groupStep_timer s t
    · exact ⟨rfl, rfl, rfl⟩
  have hb : SameTimer t b := by
    unfold b; split <;> exact ha
  obtain ⟨hphase, hcnt, -⟩ := hb
  have hc : c.phase = (if s.tickDue then !t.phase else t.phase) ∧
      c.blinkCnt = if s.tickDue then 0 else t.blinkCnt := by
    unfold c
    cases s.tickDue <;> simp [hphase, hcnt]
  have hd : d.phase = c.phase ∧ d.blinkCnt = c.blinkCnt := by
    unfold d; split <;> exact ⟨rfl, rfl⟩
  rw [← hc.1, ← hc.2, ← hd.1, ← hd.2]
  split <;> exact ⟨rfl, rfl⟩

/-- What a cycle does to the timer: both rules of the edge (R171, R172). -/
theorem step_timer :
    ∃ t, step s = .next t ∧ t.phase = (if s.tickDue then !s.phase else s.phase) ∧
      t.blinkCnt = nextBlinkCnt s := by
  obtain ⟨hphase, hcnt⟩ := beforeWriters_timer hrst
  obtain ⟨hphase', hcnt'⟩ := afterWriters_timer hrst (beforeWriters s)
  refine ⟨_, step_run s, ?_, ?_⟩
  · rw [State.popInput_phase, hphase', hphase]
  · rw [State.popInput_blinkCnt, hcnt', hcnt, nextBlinkCnt]
    cases s.tickDue <;> rfl

end

/-- Settles O41: the divider is at its last value exactly in a cycle that ticks. -/
theorem phaseChangesOnlyAtTicks : Obligations.PhaseChangesOnlyAtTicks := by
  intro s hrst
  obtain ⟨t, hstep, hphase, hcnt⟩ := step_timer hrst
  rw [nextBlinkCnt] at hcnt
  refine ⟨t, hstep, fun hlast => ?_, fun hshort => ?_⟩
  · have htick : s.tickDue = true := (tickDue_iff s).2 hlast
    rw [if_pos htick] at hphase hcnt
    exact ⟨hphase, hcnt⟩
  · have htick : ¬s.tickDue = true := mt (tickDue_iff s).1 hshort
    rw [if_neg htick] at hphase hcnt
    exact ⟨hphase, hcnt⟩

end Sys2Proof.Machine
end

section
/-!
The waveform encoder (spec/43_waveform_encoder.md R180 to R186): the effective colour by power
state, the place of a channel's bits in the GRB word and in the frame, and the bits of a waveform
byte in time order.
-/

namespace Sys2Proof.Machine

/-! ### The effective colour (R180) -/

theorem eff_of_ps_one {e : Entry} (hps : e.ps = 1#2) (ph : Bool) : eff e ph = e.colour :=
  if_pos hps

/-- Settles O28: one lemma for each power state, and for Blinking one phase after the other. -/
theorem effectiveColourTable : Obligations.EffectiveColourTable := by
  intro r g b ph
  refine ⟨?_, ?_, ?_, ?_, ?_⟩
  · exact eff_of_ps_zero rfl ph
  · exact eff_of_ps_one rfl ph
  · exact eff_of_ps_two rfl true
  · exact eff_of_ps_two rfl false
  · exact eff_of_ps_three rfl ph

/-! ### The place of a channel's bits (R181, R185) -/

/-- Blue lies in the low eight bits, red in the next eight and green above them (R181). -/
theorem grb_getLsbD (col : Rgb) (n : Nat) :
    (grb col).getLsbD n =
      if n < 8 then col.b.getLsbD n
      else if n - 8 < 8 then col.r.getLsbD (n - 8) else col.g.getLsbD (n - 8 - 8) := by
  change (col.g ++ col.r ++ col.b : BitVec (8 + 8 + 8)).getLsbD n = _
  rw [BitVec.getLsbD_append, BitVec.getLsbD_append]

/-- Channel `c` takes the eight bits of the GRB word from bit `8 * (2 - c)` up. -/
theorem grb_getLsbD_channel (col : Rgb) {c i : Nat} (hc : c < 3) (hi : i < 8) :
    (grb col).getLsbD (8 * (2 - c) + i) = (wireChannel col c).getLsbD i := by
  rw [grb_getLsbD]
  match c, hc with
  | 0, _ =>
    have habove : ¬16 + i < 8 ∧ ¬16 + i - 8 < 8 := by omega
    have hskip : 16 + i - 8 - 8 = i := by omega
    simp [wireChannel, habove, hskip]
  | 1, _ => simp [wireChannel, hi]
  | 2, _ => simp [wireChannel, hi]

/-- Settles O29: byte `8c + m` of an LED's 24 expands bit `23 - (8c + m)` of its GRB word, which is
bit `7 - m` of channel `c`. -/
theorem waveformBitMap : Obligations.WaveformBitMap := by
  intro T ph k c m hk hc hm
  have hbit : 23 - (8 * c + m) = 8 * (2 - c) + (7 - m) := by omega
  calc waveByte (snapOf T ph) (4 + 24 * k + 8 * c + m)
      = enc ((snapOf T ph)[k].getLsbD (23 - (8 * c + m))) := by
        rw [Nat.add_assoc, waveByte_data _ k _ hk (by omega)]
    _ = enc ((wireChannel (eff T[k] ph) c).getLsbD (7 - m)) := by
        rw [snapOf_getElem, hbit, grb_getLsbD_channel _ hc (by omega)]
    _ = if (wireChannel (eff T[k] ph) c).getLsbD (7 - m) then 0xF8#8 else 0xC0#8 := rfl

/-! ### The line bits in time order (R186) -/

/-- The bits of `v` in the order they are sent, most significant first. -/
def sentBits (v : Byte) : List Bool := (List.range 8).map fun t => v.getLsbD (7 - t)

theorem lineBits_eq_sentBits {snap : Vector GrbWord 32} {p : Nat} {v : Byte}
    (h : waveByte snap p = v) : (List.range 8).map (lineBit snap p) = sentBits v := by
  subst h; rfl

/-- Settles O32: the line carries the sent bits of the byte, and each of the three bytes has the
pattern stated. -/
theorem lineBitPatterns : Obligations.LineBitPatterns := by
  intro snap p
  refine ⟨fun _ => rfl, fun h => ?_, fun h => ?_, fun h => ?_⟩
  · exact (lineBits_eq_sentBits h).trans (by decide)
  · exact (lineBits_eq_sentBits h).trans (by decide)
  · exact (lineBits_eq_sentBits h).trans (by decide)

end Sys2Proof.Machine
end

section
/-!
The transmitter in one cycle (spec/44_frame_transmitter.md R200 to R212): without reset only a
launch and a shift write its registers and the snapshot, and a pending request is lost only at a
launch.
-/

namespace Sys2Proof.Machine

/-- Settles O33: the line carries the addressed line bit, and is gated by `tx_busy`. -/
theorem serialLineIsGated : Obligations.SerialLineIsGated := by
  intro s i
  constructor
  · exact fun hbusy => if_pos hbusy
  · exact fun hidle => if_neg (by simp [hidle])

/-- The same snapshot and transmitter registers, and the same host beside them. -/
def SameTransmitter (s t : State) : Prop := SameSnap s t ∧ SameLine s t ∧ SameHost s t

/-- Equal registers mean the same place in the frame. -/
theorem SameTransmitter.framePos {s t : State} (h : SameTransmitter s t) :
    t.framePos = s.framePos := by
  obtain ⟨-, ⟨-, hbyte, hbit, hcell⟩, hparams, -⟩ := h
  simp only [State.framePos, hbyte, hbit, hcell, hparams]

theorem anyReq_iff (s : State) :
    s.anyReq = true ↔ s.decState = .wait ∨ s.reqBlink = true ∨ s.reqExt = true := by
  simp [State.anyReq, or_assoc]

/-- An idle transmitter with a request pending launches, unless the decoder is in RUN (R202). -/
theorem run_of_no_launch {s : State} (hidle : s.txBusy = false) (hreq : s.anyReq = true)
    (hno : s.launchDue = false) : s.decState = .run := by
  simpa [State.launchDue, hidle, hreq] using hno

/-! ### The state before and after the writers -/

theorem background_transmitter (s t : State) : SameTransmitter t (s.background t) := by
  unfold State.background
  cases s.input.rst <;> cases s.clearDue <;> cases s.tickDue <;>
    simp [SameTransmitter, SameSnap, SameLine, SameHost]

theorem background_requests (s t : State) :
    (s.background t).reqBlink = t.reqBlink ∧ (s.background t).reqExt = t.reqExt := by
  unfold State.background
  cases s.input.rst <;> cases s.clearDue <;> cases s.tickDue <;> simp

theorem groupStep_transmitter (s t : State) : SameTransmitter t (groupStep s t) := by
  unfold groupStep
  split <;> simp [SameTransmitter, SameSnap, SameLine, SameHost]

theorem groupStep_requests (s t : State) :
    (groupStep s t).reqBlink = t.reqBlink ∧ (groupStep s t).reqExt = t.reqExt := by
  unfold groupStep
  split <;> simp

section
variable {s : State} (hrst : s.input.rst = false)
include hrst

theorem afterReaders_of_launch (hlaunch : s.launchDue = true) :
    afterReaders s = (s.dropAck.readPort s.input.rdIdx).startFrame := by
  simp [afterReaders, hrst, hlaunch]

theorem afterReaders_of_busy (hbusy : s.txBusy = true) :
    afterReaders s = (s.dropAck.readPort s.input.rdIdx).shiftLine := by
  have hno : s.launchDue = false := by simp [State.launchDue, hbusy]
  simp [afterReaders, hrst, hno, hbusy]

theorem afterReaders_of_idle (hno : s.launchDue = false) (hidle : s.txBusy = false) :
    afterReaders s = s.dropAck.readPort s.input.rdIdx := by
  simp [afterReaders, hrst, hno, hidle]

/-- A launch retires both requests (R203); a shift keeps them. -/
theorem afterReaders_requests :
    (afterReaders s).reqBlink = (s.reqBlink && !s.launchDue) ∧
      (afterReaders s).reqExt = (s.reqExt && !s.launchDue) := by
  unfold afterReaders
  cases s.launchDue <;> cases s.txBusy <;> simp [hrst]

/-- No writer acts on the transmitter. -/
theorem afterWriters_transmitter (t : State) : SameTransmitter t (afterWriters s t) := by
  rw [afterWriters, if_neg (by simp [hrst])]
  extract_lets a b c d
  have ha : SameTransmitter t a := by
    unfold a; split
    · exact groupStep_transmitter s t
    · exact ⟨rfl, ⟨rfl, rfl, rfl, rfl⟩, rfl, rfl⟩
  have hb : SameTransmitter t b := by
    unfold b; split <;> exact ha
  have hc : SameTransmitter t c := by
    unfold c; split <;> exact hb
  have hd : SameTransmitter t d := by
    unfold d; split <;> exact hc
  split <;> exact hd

/-- A tick and the `render_req` strobe set the request of theirs (R173, R201). -/
theorem afterWriters_requests (t : State) :
    (afterWriters s t).reqBlink = (s.tickDue || t.reqBlink) ∧
      (afterWriters s t).reqExt = (s.input.renderReq || t.reqExt) := by
  have hgroup := groupStep_requests s t
  unfold afterWriters
  cases s.tickDue <;> cases s.input.renderReq <;>
    simp [hrst, hgroup, apply_ite State.reqBlink, apply_ite State.reqExt]

/-! ### The cycle -/

section
variable {t : State} (hstep : step s = .next t)
include hstep

/-- The readers leave the transmitter and the snapshot as they are after the cycle. -/
theorem step_transmitter : SameTransmitter (afterReaders s).popInput t := by
  rw [step_run] at hstep
  obtain rfl := Host.Outcome.next.inj hstep
  obtain ⟨hsnap, ⟨hbusy, hbyte, hbit, hcell⟩, hparams, hinputs⟩ :=
    afterWriters_transmitter hrst (beforeWriters s)
  obtain ⟨hsnap', ⟨hbusy', hbyte', hbit', hcell'⟩, hparams', hinputs'⟩ :=
    background_transmitter s (afterReaders s)
  exact ⟨hsnap.trans hsnap', ⟨hbusy.trans hbusy', hbyte.trans hbyte', hbit.trans hbit',
    hcell.trans hcell'⟩, hparams.trans hparams', congrArg List.tail (hinputs.trans hinputs')⟩

/-- What a cycle does to the two request flags: a set wins over the clear of a launch
(R173, R201). -/
theorem step_requests :
    t.reqBlink = (s.tickDue || (s.reqBlink && !s.launchDue)) ∧
      t.reqExt = (s.input.renderReq || (s.reqExt && !s.launchDue)) := by
  rw [step_run] at hstep
  obtain rfl := Host.Outcome.next.inj hstep
  obtain ⟨hblink, hext⟩ := afterWriters_requests hrst (beforeWriters s)
  obtain ⟨hblink', hext'⟩ := background_requests s (afterReaders s)
  obtain ⟨hblink'', hext''⟩ := afterReaders_requests hrst
  exact ⟨by rw [← hblink'', ← hblink']; exact hblink, by rw [← hext'', ← hext']; exact hext⟩

/-- A launch captures the snapshot and starts the transmitter at the first line bit
(R204, R205). -/
theorem step_of_launch (hlaunch : s.launchDue = true) :
    SameTransmitter s.startFrame.popInput t := by
  have h := step_transmitter hrst hstep
  rw [afterReaders_of_launch hrst hlaunch] at h
  exact h

/-- A frame in flight is shifted (R206). -/
theorem step_of_busy (hbusy : s.txBusy = true) :
    SameTransmitter (s.dropAck.readPort s.input.rdIdx).shiftLine.popInput t := by
  have h := step_transmitter hrst hstep
  rwa [afterReaders_of_busy hrst hbusy] at h

/-- Without a launch an idle transmitter stays as it is. -/
theorem step_of_idle (hno : s.launchDue = false) (hidle : s.txBusy = false) :
    SameTransmitter s.popInput t := by
  have h := step_transmitter hrst hstep
  rw [afterReaders_of_idle hrst hno hidle] at h
  exact h

/-- Only a launch writes the snapshot (R204). -/
theorem step_snap_of_no_launch (hno : s.launchDue = false) : t.snap = s.snap := by
  cases hbusy : s.txBusy with
  | true =>
    obtain ⟨hsnap, -⟩ := step_of_busy hrst hstep hbusy
    exact hsnap.trans (State.shiftLine_snap _)
  | false => exact (step_of_idle hrst hstep hno hbusy).1

/-- A request that this cycle does not serve is still pending in the next. -/
theorem step_keeps_request (hno : s.launchDue = false) (hreq : s.anyReq = true) :
    t.anyReq = true := by
  obtain ⟨hblink, hext⟩ := step_requests hrst hstep
  rw [anyReq_iff] at hreq ⊢
  rcases hreq with hwait | hreq | hreq
  · obtain ⟨u, hu, hdec, -⟩ := step_decoder_of_wait hrst hwait
    obtain rfl := Host.Outcome.next.inj (hstep.symm.trans hu)
    exact .inl (by simpa [hno] using hdec)
  · exact .inr (.inl (by simp [hblink, hreq, hno]))
  · exact .inr (.inr (by simp [hext, hreq, hno]))

end

end

/-- Settles O45: RUN and a frame in flight each exclude a launch, so both clauses come from the rule
that only a launch writes the snapshot. -/
theorem snapshotChangesOnlyAtLaunch : Obligations.SnapshotChangesOnlyAtLaunch := by
  intro s t hrst hstep
  simp only [← launchDue_iff, Bool.not_eq_true]
  have hkeep := step_snap_of_no_launch hrst hstep
  refine ⟨hkeep, fun hlaunch => ?_, fun hidle hbusy => ?_, fun hrun => hkeep ?_,
    fun hbusy => hkeep ?_⟩
  · obtain ⟨hsnap, ⟨hbusy, hbyte, hbit, hcell⟩, -⟩ := step_of_launch hrst hstep hlaunch
    refine ⟨hbusy, hbyte, hbit, hcell, fun k hk => ?_⟩
    have hsnap' : t.snap = snapOf s.T s.phase := hsnap
    simp only [hsnap', snapOf_getElem]
  · by_contra hno
    obtain ⟨-, ⟨hstill, -⟩, -⟩ := step_of_idle hrst hstep (by simpa using hno) hidle
    exact absurd (hbusy.symm.trans (hstill.trans hidle)) (by decide)
  · simp [State.launchDue, hrun]
  · simp [State.launchDue, hbusy]

end Sys2Proof.Machine
end

section
/-!
A frame in flight (spec/44_frame_transmitter.md R206 to R213): a shift moves to the next of its
8176·CELL_DIV places, and the place gives the line bit.
-/

namespace Sys2Proof.Machine

/-! ### Places in a frame -/

theorem framePos_lt (s : State) : s.framePos < 8176 * s.params.cellDiv := by
  have hbits : 8 * s.txByte.val + s.txBit.val + 1 ≤ 8176 := by omega
  calc s.framePos
      < (8 * s.txByte.val + s.txBit.val) * s.params.cellDiv + s.params.cellDiv :=
        Nat.add_lt_add_left s.cellCnt_lt _
    _ = (8 * s.txByte.val + s.txBit.val + 1) * s.params.cellDiv := (Nat.succ_mul _ _).symm
    _ ≤ 8176 * s.params.cellDiv := Nat.mul_le_mul_right _ hbits

/-- The line bits that came before are the place in units of CELL_DIV. -/
theorem framePos_div (s : State) :
    s.framePos / s.params.cellDiv = 8 * s.txByte.val + s.txBit.val := by
  rw [State.framePos, Nat.add_comm, Nat.add_mul_div_right _ _ s.params.cellDiv_pos,
    Nat.div_eq_of_lt s.cellCnt_lt, Nat.zero_add]

/-- The place in the frame says which bit of which waveform byte is on the line (R209, R213). -/
theorem ledOut_of_busy {s : State} (hbusy : s.txBusy = true) :
    s.ledOut = lineBit s.snap (s.framePos / s.params.cellDiv / 8)
      (s.framePos / s.params.cellDiv % 8) := by
  have hbyte : (8 * s.txByte.val + s.txBit.val) / 8 = s.txByte.val := by omega
  have hbit : (8 * s.txByte.val + s.txBit.val) % 8 = s.txBit.val := by omega
  rw [framePos_div, hbyte, hbit]
  exact if_pos hbusy

/-- A shift moves to the next place of the frame, or from the last place to idle (R206, R207). -/
theorem shiftLine_framePos {s : State} (hbusy : s.txBusy = true) :
    (s.shiftLine.txBusy = true ∧ s.shiftLine.framePos = s.framePos + 1) ∨
      (s.shiftLine.txBusy = false ∧ s.framePos + 1 = 8176 * s.params.cellDiv) := by
  have hcell := s.cellCnt_lt
  rcases shiftLine_spec s with
    ⟨-, _, e⟩ | ⟨hlast, _, e⟩ | ⟨hlast, hbit, _, e⟩ | ⟨hlast, hbit, hbyte, e⟩
  · refine .inl ⟨by simpa [e] using hbusy, ?_⟩
    simp only [e, State.framePos, Nat.add_assoc]
  · refine .inl ⟨by simpa [e] using hbusy, ?_⟩
    have hend : s.cellCnt + 1 = s.params.cellDiv := by omega
    simp only [e, State.framePos, Nat.add_zero, Nat.add_assoc, hend, ← Nat.succ_mul]
    rfl
  · refine .inl ⟨by simpa [e] using hbusy, ?_⟩
    have hend : s.cellCnt + 1 = s.params.cellDiv := by omega
    simp only [e, State.framePos, Nat.add_zero, Nat.add_assoc, hend, ← Nat.succ_mul, hbit]
    rfl
  · refine .inr ⟨by simp [e], ?_⟩
    have hend : s.cellCnt + 1 = s.params.cellDiv := by omega
    simp only [State.framePos, Nat.add_assoc, hend, ← Nat.succ_mul, hbit, hbyte]

/-- A busy cycle: the next place of the same frame, or the end of the frame. -/
theorem step_framePos {s t : State} (hrst : s.input.rst = false) (hstep : step s = .next t)
    (hbusy : s.txBusy = true) :
    SameHost s.popInput t ∧
      ((t.txBusy = true ∧ t.framePos = s.framePos + 1) ∨
        (t.txBusy = false ∧ s.framePos + 1 = 8176 * s.params.cellDiv)) := by
  have h := step_of_busy hrst hstep hbusy
  have hpos := h.framePos
  obtain ⟨-, ⟨hline, -⟩, hparams, hinputs⟩ := h
  have hhost : SameHost s.popInput t :=
    ⟨hparams.trans (State.shiftLine_params _),
      hinputs.trans (congrArg List.tail (State.shiftLine_inputs _))⟩
  refine ⟨hhost, ?_⟩
  rw [hline, hpos]
  exact shiftLine_framePos (s := s.dropAck.readPort s.input.rdIdx) hbusy

/-! ### Cycles without reset -/

/-- The first of the coming cycles has no reset. -/
theorem State.NoReset.head {s : State} {n : Nat} (h : s.NoReset (n + 1)) :
    s.input.rst = false := by
  rw [input_of_inputs_drop (s := s) (n := 0) rfl]
  exact h 0 (Nat.succ_pos n)

/-- After a cycle one cycle less is known to have no reset. -/
theorem State.NoReset.tail {s t : State} {n : Nat} (h : s.NoReset (n + 1))
    (hrst : s.input.rst = false) (hstep : step s = .next t) : t.NoReset n := by
  intro k hk
  obtain ⟨-, -, -, hinputs⟩ := step_transmitter hrst hstep
  have htail : t.inputs = s.inputs.tail :=
    hinputs.trans (congrArg List.tail (afterReaders_frame s).2.2.2)
  have hinput : t.inputAt k = s.inputAt (k + 1) := by
    simp [State.inputAt, htail, List.getD_eq_getElem?_getD]
  rw [hinput]
  exact h (k + 1) (Nat.succ_lt_succ hk)

/-! ### The run of a frame -/

/-- `t` is the cycle at place `n` of the frame that the cycle `s` launches. -/
structure InFrame (s : State) (n : Nat) (t : State) : Prop where
  runs : Runs (n + 1) s t
  txBusy : t.txBusy = true
  framePos : t.framePos = n
  snap : t.snap = snapOf s.T s.phase
  params : t.params = s.params
  inputs : t.inputs = s.inputs.drop (n + 1)

/-- The cycle after the launch is the first of the frame. -/
theorem inFrame_zero {s : State} (hrst : s.input.rst = false) (hlaunch : s.launchDue = true) :
    ∃ t, InFrame s 0 t := by
  have hstep := step_run s
  have h := step_of_launch hrst hstep hlaunch
  have hpos := h.framePos
  obtain ⟨hsnap, ⟨hbusy, -⟩, hparams, hinputs⟩ := h
  refine ⟨_, runs_snoc 0 s s _ ((runs_zero s s).2 rfl) hstep, hbusy, ?_, hsnap, hparams, ?_⟩
  · rw [hpos]; simp [State.framePos]
  · rw [hinputs]; simp

/-- The cycle after a place of the frame: the next place, or an idle transmitter. -/
theorem InFrame.next {s t : State} {n : Nat} (h : InFrame s n t)
    (hrst : (s.inputAt (n + 1)).rst = false) :
    (n + 1 < 8176 * s.params.cellDiv → ∃ u, InFrame s (n + 1) u) ∧
      (n + 1 = 8176 * s.params.cellDiv → ∃ u, Runs (n + 2) s u ∧ u.txBusy = false) := by
  have hrst' : t.input.rst = false := by rwa [input_of_inputs_drop h.inputs]
  have hno : t.launchDue = false := by simp [State.launchDue, h.txBusy]
  have hstep := step_run t
  have hruns := runs_snoc (n + 1) s t _ h.runs hstep
  obtain ⟨⟨hparams, hinputs⟩, hnext⟩ := step_framePos hrst' hstep h.txBusy
  have hsnap := step_snap_of_no_launch hrst' hstep hno
  rw [h.framePos, h.params] at hnext
  rcases hnext with ⟨hbusy, hpos⟩ | ⟨hidle, hlast⟩
  · refine ⟨fun _ => ⟨_, hruns, hbusy, hpos, hsnap.trans h.snap, hparams.trans h.params, ?_⟩,
      fun hend => ?_⟩
    · rw [hinputs, State.popInput_inputs, h.inputs, List.tail_drop]
    · have hlt := framePos_lt (afterWriters t (beforeWriters t)).popInput
      rw [hpos, hparams, State.popInput_params, h.params] at hlt
      omega
  · exact ⟨fun hlt => absurd hlast hlt.ne, fun _ => ⟨_, hruns, hidle⟩⟩

theorem exists_inFrame {s : State} (hlaunch : s.launchDue = true)
    (hreset : s.NoReset (8176 * s.params.cellDiv + 1)) (n : Nat)
    (hn : n < 8176 * s.params.cellDiv) : ∃ t, InFrame s n t := by
  induction n with
  | zero => exact inFrame_zero hreset.head hlaunch
  | succ n ih =>
    obtain ⟨t, ht⟩ := ih (by omega)
    exact (ht.next (hreset (n + 1) (by omega))).1 hn

/-- Settles O53, by induction on the place in the frame; after the last place the transmitter is
idle. -/
theorem frameLastsExactly8176LineBits : Obligations.FrameLastsExactly8176LineBits := by
  intro s hlaunch hreset
  have hframe := exists_inFrame ((launchDue_iff s).2 hlaunch) hreset
  constructor
  · intro n hn
    obtain ⟨t, ht⟩ := hframe n hn
    refine ⟨t, ht.runs, ht.txBusy, ht.framePos, ?_⟩
    rw [ledOut_of_busy ht.txBusy, ht.snap, ht.framePos, ht.params]
  · have hpos := s.params.cellDiv_pos
    obtain ⟨n, hn⟩ : ∃ n, 8176 * s.params.cellDiv = n + 1 := ⟨_, (Nat.succ_pred (by omega)).symm⟩
    obtain ⟨t, ht⟩ := hframe n (by omega)
    obtain ⟨u, hruns, hidle⟩ := (ht.next (hreset (n + 1) (by omega))).2 hn.symm
    exact ⟨u, by rwa [hn], hidle, if_neg (by simp [hidle])⟩

end Sys2Proof.Machine
end

section
/-!
The service of a render request (spec/44_frame_transmitter.md R215): the frame in flight ends, then a
report in RUN reaches WAIT, and by then the request is served.
-/

namespace Sys2Proof.Machine

/-- A bound on the cycles before a pending request is served: the rest of the frame in flight and a
whole report, or the rest of the report that holds up an idle transmitter. -/
def State.serviceTime (s : State) : Nat :=
  if s.txBusy then 8176 * s.params.cellDiv - s.framePos + 16
  else if s.decState = .run then 16 - s.decGrp.val
  else 0

theorem serviceTime_of_idle_le {s : State} (hidle : s.txBusy = false) : s.serviceTime ≤ 16 := by
  simp only [State.serviceTime, hidle, Bool.false_eq_true, if_false]
  split <;> omega

theorem serviceTime_le (s : State) : s.serviceTime ≤ 8176 * s.params.cellDiv + 16 := by
  cases hbusy : s.txBusy with
  | true => simp only [State.serviceTime, hbusy, if_true]; omega
  | false => have := serviceTime_of_idle_le hbusy; omega

/-- A cycle of the frame in flight brings the service nearer. -/
theorem step_serviceTime_of_busy {s t : State} (hrst : s.input.rst = false)
    (hstep : step s = .next t) (hbusy : s.txBusy = true) : t.serviceTime < s.serviceTime := by
  have hlt := framePos_lt s
  obtain ⟨⟨hparams, -⟩, ⟨hbusy', hpos⟩ | ⟨hidle, hlast⟩⟩ := step_framePos hrst hstep hbusy
  · rw [State.popInput_params] at hparams
    simp only [State.serviceTime, hbusy, hbusy', hpos, hparams, if_true]
    omega
  · calc t.serviceTime
        ≤ 16 := serviceTime_of_idle_le hidle
      _ < 8176 * s.params.cellDiv - s.framePos + 16 := by omega
      _ = s.serviceTime := (if_pos hbusy).symm

/-- So does a group of the report that an idle transmitter waits for. -/
theorem step_serviceTime_of_run {s t : State} (hrst : s.input.rst = false)
    (hstep : step s = .next t) (hidle : s.txBusy = false) (hrun : s.decState = .run) :
    t.serviceTime < s.serviceTime := by
  have hno : s.launchDue = false := by simp [State.launchDue, hrun]
  obtain ⟨-, ⟨hidle', -⟩, -⟩ := step_of_idle hrst hstep hno hidle
  obtain ⟨u, hu, hnext, -⟩ := step_decoder_of_run hrst hrun
  obtain rfl := Host.Outcome.next.inj (hstep.symm.trans hu)
  simp only [State.serviceTime, hidle, hidle', State.popInput_txBusy, hrun, Bool.false_eq_true,
    if_false, if_true]
  unfold NextGroup at hnext
  split at hnext
  · obtain ⟨hwait, -⟩ := hnext
    simp [hwait]
  · obtain ⟨hrun', hgrp⟩ := hnext
    simp only [hrun', if_true]
    omega

/-- Without a launch a cycle brings the service of a pending request nearer. -/
theorem step_serviceTime_lt {s t : State} (hrst : s.input.rst = false) (hstep : step s = .next t)
    (hno : s.launchDue = false) (hreq : s.anyReq = true) : t.serviceTime < s.serviceTime := by
  cases hbusy : s.txBusy with
  | true => exact step_serviceTime_of_busy hrst hstep hbusy
  | false => exact step_serviceTime_of_run hrst hstep hbusy (run_of_no_launch hbusy hreq hno)

/-- A pending request is served within the bound, by induction on the bound: the current cycle
launches, or it brings the service nearer. -/
theorem served_within (n : Nat) (s : State) (hreq : s.anyReq = true) (hbound : s.serviceTime ≤ n)
    (hreset : s.NoReset (n + 1)) :
    ∃ m t, m ≤ n ∧ Runs m s t ∧ t.launchDue = true ∧ t.input.rst = false := by
  induction n generalizing s with
  | zero =>
    cases hlaunch : s.launchDue with
    | true => exact ⟨0, s, le_rfl, (runs_zero s s).2 rfl, hlaunch, hreset.head⟩
    | false =>
      have := step_serviceTime_lt hreset.head (step_run s) hlaunch hreq
      omega
  | succ n ih =>
    cases hlaunch : s.launchDue with
    | true => exact ⟨0, s, Nat.zero_le _, (runs_zero s s).2 rfl, hlaunch, hreset.head⟩
    | false =>
      have hrst := hreset.head
      have hstep := step_run s
      have hlt := step_serviceTime_lt hrst hstep hlaunch hreq
      obtain ⟨m, t, hm, hruns, ht⟩ := ih _ (step_keeps_request hrst hstep hlaunch hreq)
        (by omega) (hreset.tail hrst hstep)
      exact ⟨m + 1, t, by omega, (runs_succ m s t).2 ⟨_, hstep, hruns⟩, ht⟩

/-- Settles O57: the bound on the service time holds in every state, the invariant or not. -/
theorem pendingRequestIsServedInTime : Obligations.PendingRequestIsServedInTime := by
  intro s _ hreq hreset
  obtain ⟨n, t, hn, hruns, hlaunch, hrst⟩ :=
    served_within _ s ((anyReq_iff s).2 hreq) (serviceTime_le s) hreset
  exact ⟨n, t, hn, hruns, (launchDue_iff t).1 hlaunch, hrst⟩

end Sys2Proof.Machine
end

section
/-!
A cycle with `rst = 1` (spec/70_reset_and_hazards.md R251 to R253): the step is the reset edge, and
the outputs after it are those of the reset state.
-/

namespace Sys2Proof.Machine

/-- Of all the selected operations only the reset and the read port leave a trace (R251). -/
theorem step_of_reset {s : State} (hrst : s.input.rst = true) :
    step s = .next (resetEdge s s.input) := by
  rw [step_run, beforeWriters, State.background, if_pos hrst, afterWriters, if_pos hrst,
    afterReaders, if_pos hrst]
  rfl

theorem registersReset_resetEdge (s : State) (i : Inputs) : RegistersReset (resetEdge s i) := by
  simp [RegistersReset, resetEdge]

/-- An output reads registers alone, and the reset edge gives those of the reset state. -/
theorem out_resetEdge (s : State) (i j : Inputs) :
    out (resetEdge s i) j = out (State.resetOf s.params) j := rfl

/-- Settles O18: the step is the reset edge, whatever the state and the other inputs. -/
theorem resetOverridesEveryOtherInput : Obligations.ResetOverridesEveryOtherInput := fun s hrst =>
  ⟨_, step_of_reset hrst, registersReset_resetEdge s s.input, rfl, out_resetEdge s s.input⟩

/-- Settles O19: every entry of the reset table reads `OFF_ENTRY`, and the other outputs are
registers of the reset state. -/
theorem outputsAfterReset : Obligations.OutputsAfterReset := by
  intro s i hrst
  obtain ⟨hr, hg, hb, hps⟩ := out_rd (State.resetOf s.params) i (readEntry_replicate _)
  refine ⟨_, step_of_reset hrst, ?_⟩
  rw [out_resetEdge]
  exact ⟨rfl, rfl, rfl, rfl, rfl, rfl, hr, hg, hb, hps⟩

end Sys2Proof.Machine
end

section
/-!
The report port's data (spec/70_reset_and_hazards.md R258): no register update reads the inputs, and
of the parts of a cycle only the taking of a report reads `rpt_data`.
-/

namespace Sys2Proof.Machine

/-! ### Register updates do not read the inputs -/

section
variable (s : State) (i : Inputs)

@[simp] theorem State.withInput_input : (s.withInput i).input = i := rfl

/-- The end of the cycle drops the input that was replaced. -/
@[simp] theorem State.popInput_withInput : (s.withInput i).popInput = s.popInput := rfl

@[simp] theorem State.launchDue_withInput : (s.withInput i).launchDue = s.launchDue := rfl

@[simp] theorem State.tickDue_withInput : (s.withInput i).tickDue = s.tickDue := rfl

@[simp] theorem State.clearDue_withInput : (s.withInput i).clearDue = s.clearDue := rfl

@[simp] theorem State.muxGroup_withInput : (s.withInput i).muxGroup = s.muxGroup := rfl

@[simp] theorem groupEntry_withInput : groupEntry (s.withInput i) = groupEntry s := rfl

@[simp] theorem State.dropAck_withInput :
    (s.withInput i).dropAck = s.dropAck.withInput i := rfl

@[simp] theorem State.readPort_withInput (idx : Byte) :
    (s.withInput i).readPort idx = (s.readPort idx).withInput i := rfl

@[simp] theorem State.startFrame_withInput :
    (s.withInput i).startFrame = s.startFrame.withInput i := rfl

@[simp] theorem State.applyClear_withInput :
    (s.withInput i).applyClear = s.applyClear.withInput i := rfl

@[simp] theorem State.blinkTick_withInput :
    (s.withInput i).blinkTick = s.blinkTick.withInput i := rfl

@[simp] theorem State.latchClear_withInput :
    (s.withInput i).latchClear = s.latchClear.withInput i := rfl

@[simp] theorem State.latchRender_withInput :
    (s.withInput i).latchRender = s.latchRender.withInput i := rfl

@[simp] theorem State.resetRegisters_withInput :
    (s.withInput i).resetRegisters = s.resetRegisters.withInput i := rfl

@[simp] theorem State.countBlink_withInput :
    (s.withInput i).countBlink = s.countBlink.withInput i := by
  simp only [State.countBlink, apply_dite (State.withInput · i)]
  rfl

@[simp] theorem State.advanceGroup_withInput :
    (s.withInput i).advanceGroup = s.advanceGroup.withInput i := by
  simp only [State.advanceGroup, apply_dite (State.withInput · i)]
  rfl

@[simp] theorem State.tableWrite_withInput (idx : Nat) (e : Entry) :
    (s.withInput i).tableWrite idx e = (s.tableWrite idx e).withInput i := by
  simp only [State.tableWrite, apply_dite (State.withInput · i)]
  rfl

@[simp] theorem State.shiftLine_withInput :
    (s.withInput i).shiftLine = s.shiftLine.withInput i := by
  simp only [State.shiftLine, apply_dite (State.withInput · i)]
  rfl

theorem ite_withInput (c : Prop) [Decidable c] (t : State) :
    (if c then s.withInput i else t.withInput i) = (if c then s else t).withInput i :=
  (apply_ite (State.withInput · i) c s t).symm

theorem groupStep_withInput (t : State) :
    groupStep (s.withInput i) (t.withInput i) = (groupStep s t).withInput i := by
  simp [groupStep, ite_withInput]

end

/-! ### The parts of a cycle -/

/-- The same inputs with other data on the report port. -/
def withReportData (i : Inputs) (d : Vector Byte 64) : Inputs := { i with rptData := d }

section
variable (i : Inputs) (d : Vector Byte 64)

@[simp] theorem withReportData_rst : (withReportData i d).rst = i.rst := rfl
@[simp] theorem withReportData_rptValid : (withReportData i d).rptValid = i.rptValid := rfl
@[simp] theorem withReportData_clr : (withReportData i d).clr = i.clr := rfl
@[simp] theorem withReportData_renderReq : (withReportData i d).renderReq = i.renderReq := rfl
@[simp] theorem withReportData_rdIdx : (withReportData i d).rdIdx = i.rdIdx := rfl

end

section
variable (s t : State) (d : Vector Byte 64)

theorem afterReaders_withReportData :
    afterReaders (s.withInput (withReportData s.input d)) =
      (afterReaders s).withInput (withReportData s.input d) := by
  simp [afterReaders, ite_withInput]

theorem background_withReportData :
    (s.withInput (withReportData s.input d)).background
        (t.withInput (withReportData s.input d)) =
      (s.background t).withInput (withReportData s.input d) := by
  unfold State.background
  cases hrst : s.input.rst with
  | true => simp [hrst]
  | false =>
    cases hclear : s.clearDue <;> cases htick : s.tickDue <;> simp [hrst, hclear, htick]

theorem beforeWriters_withReportData :
    beforeWriters (s.withInput (withReportData s.input d)) =
      (beforeWriters s).withInput (withReportData s.input d) := by
  rw [beforeWriters, afterReaders_withReportData, background_withReportData, beforeWriters]

/-- The taking of a report in IDLE is the one writer that reads `rpt_data` (R121). -/
theorem afterWriters_withReportData (h : ¬(s.input.rptValid = true ∧ s.decState = .idle)) :
    afterWriters (s.withInput (withReportData s.input d))
        (t.withInput (withReportData s.input d)) =
      (afterWriters s t).withInput (withReportData s.input d) := by
  simp [afterWriters, ite_withInput, h, groupStep_withInput]

end

/-- Settles O46: reset overrides the report; without reset, each part of a cycle that takes no report
carries the replaced data along unread, and the end of the cycle drops it. -/
theorem reportDataMattersOnlyWhenTaken : Obligations.ReportDataMattersOnlyWhenTaken := by
  intro s d h
  change step (s.withInput (withReportData s.input d)) = step s
  cases hrst : s.input.rst with
  | true =>
    have hrst' : (s.withInput (withReportData s.input d)).input.rst = true := hrst
    rw [step_of_reset hrst', step_of_reset hrst]
    rfl
  | false =>
    have hnot : ¬(s.input.rptValid = true ∧ s.decState = .idle) := by
      rintro ⟨hvalid, hidle⟩
      simp [hvalid, hidle, hrst] at h
    rw [step_run, step_run, beforeWriters_withReportData, afterWriters_withReportData s _ d hnot,
      State.popInput_withInput]

end Sys2Proof.Machine
end

section
/-!
The round trip of command groups (spec/30_encoding.md R90 to R96): a group's bytes are the encoding
of the operation it selects, and a well-formed group operation is selected by its own bytes.
-/

namespace Sys2Proof

theorem encode_of_encodeGroup {i : Instr} {w : GroupWord} (h : encodeGroup i = some w) :
    encode i = some (.group w) := by
  simp [encode, h]

/-- Decoding drops no bit of a group (R96). -/
theorem encodeGroup_decodeGroup (w : GroupWord) : encodeGroup (decodeGroup w) = some w := by
  by_cases h0 : w.header = 0x00#8
  · rw [decodeGroup_of_header_zero h0, encodeGroup, ← h0]
  have hfields := mkHeader_fields w.header
  rcases Machine.psCode_cases (headerPs w.header) with hps | hps | hps | hps
  · rw [decodeGroup_of_ps_zero h0 hps, encodeGroup, ← hps, hfields]
  · rw [decodeGroup_of_ps_one h0 hps, encodeGroup, ← hps, hfields]
  · rw [decodeGroup_of_ps_two h0 hps, encodeGroup, ← hps, hfields]
  · rw [decodeGroup_of_ps_three h0 hps, encodeGroup, ← hps, hfields]

/-- What decodes as `SET.OFF` of LED 0 has header bit 7 set, as its header is not 0x00. -/
theorem setOff_wellFormed_of_header {h : Byte} (h0 : h ≠ 0x00#8) (hps : headerPs h = 0#2)
    (r g b : Byte) : (Instr.setOff (headerX h) (headerIdx h) r g b).WellFormed := by
  have hne := mt (mkHeader_eq_zero (headerX h) (headerPs h) (headerIdx h)).2
    (by rwa [mkHeader_fields])
  cases hx : headerX h with
  | true => rfl
  | false => simpa [Instr.WellFormed, Instr.wellFormed, hx, hps] using hne

theorem decodeGroup_wellFormed (w : GroupWord) :
    (decodeGroup w).WellFormed ∧ (decodeGroup w).isGroup = true := by
  by_cases h0 : w.header = 0x00#8
  · rw [decodeGroup_of_header_zero h0]; exact ⟨rfl, rfl⟩
  rcases Machine.psCode_cases (headerPs w.header) with hps | hps | hps | hps
  · rw [decodeGroup_of_ps_zero h0 hps]; exact ⟨setOff_wellFormed_of_header h0 hps .., rfl⟩
  · rw [decodeGroup_of_ps_one h0 hps]; exact ⟨rfl, rfl⟩
  · rw [decodeGroup_of_ps_two h0 hps]; exact ⟨rfl, rfl⟩
  · rw [decodeGroup_of_ps_three h0 hps]; exact ⟨rfl, rfl⟩

/-! ### The `SET` operation of a header given by its fields -/

section
variable (x : Bool) (idx : LedIdx) (r g b : Byte)

/-- `SET.OFF` is the one `SET` whose fields may spell the `NOP` header. -/
theorem decodeGroup_setOff (h : (Instr.setOff x idx r g b).WellFormed) :
    decodeGroup ⟨mkHeader x 0#2 idx, r, g, b⟩ = .setOff x idx r g b := by
  have h0 : mkHeader x 0#2 idx ≠ 0x00#8 := by
    rw [Ne, mkHeader_eq_zero]
    rintro ⟨rfl, -, rfl⟩
    exact absurd h (by simp [Instr.wellFormed])
  rw [decodeGroup_of_ps_zero h0 (by simp)]
  simp

theorem decodeGroup_setOn :
    decodeGroup ⟨mkHeader x 1#2 idx, r, g, b⟩ = .setOn x idx r g b := by
  rw [decodeGroup_of_ps_one (header_ne_zero_of_ps (by simp)) (by simp)]
  simp

theorem decodeGroup_setBlink :
    decodeGroup ⟨mkHeader x 2#2 idx, r, g, b⟩ = .setBlink x idx r g b := by
  rw [decodeGroup_of_ps_two (header_ne_zero_of_ps (by simp)) (by simp)]
  simp

theorem decodeGroup_setPs3 :
    decodeGroup ⟨mkHeader x 3#2 idx, r, g, b⟩ = .setPs3 x idx r g b := by
  rw [decodeGroup_of_ps_three (header_ne_zero_of_ps (by simp)) (by simp)]
  simp

end

/-- Encoding drops no operand of a well-formed group operation. -/
theorem exists_encodeGroup_of_isGroup {i : Instr} (hgroup : i.isGroup = true)
    (hwf : i.WellFormed) : ∃ w, encodeGroup i = some w ∧ decodeGroup w = i := by
  cases i with
  | nop r g b => exact ⟨_, rfl, decodeGroup_of_header_zero rfl⟩
  | setOff x idx r g b => exact ⟨_, rfl, decodeGroup_setOff x idx r g b hwf⟩
  | setOn x idx r g b => exact ⟨_, rfl, decodeGroup_setOn x idx r g b⟩
  | setBlink x idx r g b => exact ⟨_, rfl, decodeGroup_setBlink x idx r g b⟩
  | setPs3 x idx r g b => exact ⟨_, rfl, decodeGroup_setPs3 x idx r g b⟩
  | _ => exact absurd hgroup (by simp [Instr.isGroup])

end Sys2Proof

namespace Sys2Proof.Machine

/-- Settles O1: decoding keeps every field of the header, and only `SET.OFF` of LED 0 without bit 7
would be read as another operation. -/
theorem groupEncodingRoundTrip : Obligations.GroupEncodingRoundTrip := by
  refine ⟨fun w => ⟨encode_of_encodeGroup (encodeGroup_decodeGroup w), decodeGroup_wellFormed w⟩,
    fun i hgroup hwf => ?_⟩
  obtain ⟨w, hencode, hdecode⟩ := exists_encodeGroup_of_isGroup hgroup hwf
  exact ⟨w, encode_of_encodeGroup hencode, congrArg (fun j => [j]) hdecode⟩

end Sys2Proof.Machine
end

section
/-!
The parameters of the block (spec/00_scope.md R8, R9) and the invariant of R45 in every step.
-/

namespace Sys2Proof.Machine

/-- No step changes the parameters. -/
theorem step_params {s t : State} (hstep : step s = .next t) : t.params = s.params := by
  cases hrst : s.input.rst with
  | true =>
    obtain rfl := Host.Outcome.next.inj ((step_of_reset hrst).symm.trans hstep)
    rfl
  | false =>
    obtain ⟨-, -, hparams, -⟩ := step_transmitter hrst hstep
    obtain ⟨-, -, hreaders⟩ := afterReaders_timer s
    exact hparams.trans hreaders

/-- Settles O49: each part of a cycle keeps the invariant (`step_keeps_inv`), and none writes the
parameters. -/
theorem everyStepKeepsTheInvariant : Obligations.EveryStepKeepsTheInvariant :=
  fun _ _ hinv hstep => ⟨step_keeps_inv hinv hstep, step_params hstep⟩

/-- Settles O48: the reset values meet each of the four clauses (`resetOf_inv`). -/
theorem resetMeetsTheInvariant : Obligations.ResetMeetsTheInvariant := resetOf_inv

end Sys2Proof.Machine
end

section
/-!
The step is the simultaneous edge (spec/10_state.md R21): for each unit of the block, a cycle
without reset leaves its registers at the values the edge computes from the state before it.
-/

namespace Sys2Proof.Machine

/-! ### The acknowledgement, the pending clear and the read data -/

theorem groupStep_latches (s t : State) :
    (groupStep s t).ackPulse = t.ackPulse ∧ (groupStep s t).clrPend = t.clrPend ∧
      (groupStep s t).rdPort = t.rdPort := by
  unfold groupStep
  split <;> simp

/-- The serializer reads neither the acknowledgement nor the read data. -/
theorem shiftLine_dropAck_readPort (s : State) (idx : Byte) :
    (s.dropAck.readPort idx).shiftLine = s.shiftLine.dropAck.readPort idx := by
  simp only [State.shiftLine, apply_dite State.dropAck, apply_dite (State.readPort · idx)]
  rfl

section
variable {s : State} (hrst : s.input.rst = false)
include hrst

/-- The last acknowledgement has ended, and only a launch that serves WAIT gives a new one (R131).
-/
theorem afterReaders_latches :
    (afterReaders s).ackPulse = (s.launchDue && s.decState == .wait) ∧
      (afterReaders s).clrPend = s.clrPend ∧
      (afterReaders s).rdPort = readEntry s.T s.input.rdIdx.toNat := by
  unfold afterReaders
  cases s.launchDue <;> cases s.txBusy <;> simp [hrst]

/-- A clear that is due is applied and no longer pending (spec/41_table_port.md R157). -/
theorem background_latches (t : State) :
    (s.background t).ackPulse = t.ackPulse ∧
      (s.background t).clrPend = (t.clrPend && !s.clearDue) ∧
      (s.background t).rdPort = t.rdPort := by
  unfold State.background
  cases s.clearDue <;> cases s.tickDue <;> simp [hrst]

/-- The `clr` strobe sets the pending clear (R156). -/
theorem afterWriters_latches (t : State) :
    (afterWriters s t).ackPulse = t.ackPulse ∧
      (afterWriters s t).clrPend = (s.input.clr || t.clrPend) ∧
      (afterWriters s t).rdPort = t.rdPort := by
  obtain ⟨hack, hclr, hrd⟩ := groupStep_latches s t
  unfold afterWriters
  cases s.tickDue <;> cases s.input.clr <;> cases s.input.renderReq <;>
    simp [hrst, hack, hclr, hrd, apply_ite State.ackPulse, apply_ite State.clrPend,
      apply_ite State.rdPort]

/-! ### One cycle, unit by unit -/

theorem launchAt_of_no_reset : launchAt s s.input = s.launchDue := by
  simp [launchAt, hrst]

/-- A shift is the edge's rule for the four transmitter registers (R206, R207). -/
theorem ruleEdge_line_of_busy (hbusy : s.txBusy = true) :
    SameLine (ruleEdge s s.input) s.shiftLine := by
  have hno : s.launchDue = false := by simp [State.launchDue, hbusy]
  simp only [SameLine, ruleEdge, nextCellCnt, frameEnds, byteEnds, cellEnds,
    launchAt_of_no_reset hrst, hno, hbusy]
  rcases shiftLine_spec s with
    ⟨hcell, _, e⟩ | ⟨hcell, hbit, e⟩ | ⟨hcell, hbit, hbyte, e⟩ | ⟨hcell, hbit, hbyte, e⟩
  · simp [e, hcell, hbusy]
  · have hsucc : (s.txBit + 1).val = s.txBit.val + 1 := Fin.val_add_one_of_lt (Fin.lt_def.2 hbit)
    simp [e, hcell, hbusy, hbit, Fin.ext_iff, hsucc]
  · have hsucc : (s.txByte + 1).val = s.txByte.val + 1 :=
      Fin.val_add_one_of_lt (Fin.lt_def.2 hbyte)
    simp [e, hcell, hbusy, hbit, hbyte, Fin.ext_iff, hsucc]
  · simp [e, hcell, hbit, hbyte]

variable {t : State} (hstep : step s = .next t)
include hstep

/-- What a cycle does to the acknowledgement, the pending clear and the read data
(R131, R154, R156, R157). -/
theorem step_latches :
    t.ackPulse = (s.launchDue && s.decState == .wait) ∧
      t.clrPend = (s.input.clr || (s.clrPend && !s.clearDue)) ∧
      t.rdPort = readEntry s.T s.input.rdIdx.toNat := by
  rw [step_run] at hstep
  obtain rfl := Host.Outcome.next.inj hstep
  obtain ⟨hack, hclr, hrd⟩ := afterReaders_latches hrst
  obtain ⟨hack', hclr', hrd'⟩ := background_latches hrst (afterReaders s)
  obtain ⟨hack'', hclr'', hrd''⟩ := afterWriters_latches hrst (beforeWriters s)
  refine ⟨hack''.trans (hack'.trans hack), ?_, hrd''.trans (hrd'.trans hrd)⟩
  rw [State.popInput_clrPend, hclr'', beforeWriters, hclr', hclr]

/-- The end of a cycle consumes its inputs. -/
theorem step_inputs : t.inputs = s.inputs.tail := by
  obtain ⟨-, -, -, hinputs⟩ := step_transmitter hrst hstep
  obtain ⟨-, -, -, hreaders⟩ := afterReaders_frame s
  exact hinputs.trans (congrArg List.tail hreaders)

/-- Each entry has at most one writer, the group in RUN or the clear in IDLE (R150, R157). -/
theorem step_T : t.T = tabulate 32 (nextEntry s) := by
  cases hmicro : s.decState with
  | idle =>
    obtain ⟨u, hu, -, -, hread⟩ := step_decoder_of_idle hrst hmicro
    obtain rfl := Host.Outcome.next.inj (hstep.symm.trans hu)
    ext k hk : 1
    rw [← readEntry_of_lt t.T k hk, hread, readEntry_of_lt s.T k hk]
    simp [nextEntry, groupWrites, State.clearDue, hmicro]
  | run =>
    obtain ⟨u, hu, -, hT, -⟩ := step_decoder_of_run hrst hmicro
    obtain rfl := Host.Outcome.next.inj (hstep.symm.trans hu)
    ext k hk : 1
    rw [hT]
    by_cases h0 : s.muxGroup.header = 0x00#8 <;>
      simp [applyGroup, nextEntry, groupWrites, groupEntry, State.clearDue, hmicro, h0]
  | wait =>
    obtain ⟨u, hu, -, -, hT⟩ := step_decoder_of_wait hrst hmicro
    obtain rfl := Host.Outcome.next.inj (hstep.symm.trans hu)
    ext k hk : 1
    simp [hT, nextEntry, groupWrites, State.clearDue, hmicro]

/-- The microstate and the group number by the microstate before the edge (R121, R123, R132). -/
theorem step_microstate :
    t.decState = (ruleEdge s s.input).decState ∧ t.decGrp = (ruleEdge s s.input).decGrp := by
  cases hmicro : s.decState with
  | idle =>
    obtain ⟨u, hu, hdec, hgrp, -⟩ := step_decoder_of_idle hrst hmicro
    obtain rfl := Host.Outcome.next.inj (hstep.symm.trans hu)
    simpa [ruleEdge, hmicro] using And.intro hdec hgrp
  | run =>
    obtain ⟨u, hu, hnext, -⟩ := step_decoder_of_run hrst hmicro
    obtain rfl := Host.Outcome.next.inj (hstep.symm.trans hu)
    unfold NextGroup at hnext
    by_cases hlast : s.decGrp = 15
    · rw [if_pos (by simp [hlast])] at hnext
      simpa [ruleEdge, hmicro, hlast] using hnext
    · have hlt : s.decGrp.val < 15 := by omega
      rw [if_neg hlt.ne] at hnext
      obtain ⟨hdec, hgrp⟩ := hnext
      have hsucc : (s.decGrp + 1).val = s.decGrp.val + 1 :=
        Fin.val_add_one_of_lt (Fin.lt_def.2 hlt)
      simpa [ruleEdge, hmicro, hlast, Fin.ext_iff, hsucc] using And.intro hdec hgrp
  | wait =>
    obtain ⟨u, hu, hdec, hgrp, -⟩ := step_decoder_of_wait hrst hmicro
    obtain rfl := Host.Outcome.next.inj (hstep.symm.trans hu)
    simpa [ruleEdge, hmicro, launchAt_of_no_reset hrst] using And.intro hdec hgrp

/-- The captured report changes only where a report is taken (R121). -/
theorem step_rptBuf : t.rptBuf = (ruleEdge s s.input).rptBuf := by
  obtain ⟨u, hu, -, hrpt, -⟩ := step_decoder hrst
  obtain rfl := Host.Outcome.next.inj (hstep.symm.trans hu)
  obtain ⟨-, hbuf, -⟩ := beforeWriters_frame s
  rw [hrpt, State.popInput_rptBuf, decoderStep]
  cases hmicro : s.decState <;> cases hvalid : s.input.rptValid <;>
    simp [ruleEdge, hmicro, hvalid, hbuf, groupStep_frame]

/-- The snapshot and the transmitter: a launch, a shift, or hold (R204 to R206). -/
theorem step_line : SameSnap (ruleEdge s s.input) t ∧ SameLine (ruleEdge s s.input) t := by
  have hat := launchAt_of_no_reset hrst
  cases hlaunch : s.launchDue with
  | true =>
    obtain ⟨hsnap, hline, -⟩ := step_of_launch hrst hstep hlaunch
    simpa [SameSnap, SameLine, ruleEdge, nextCellCnt, hat, hlaunch] using And.intro hsnap hline
  | false =>
    cases hbusy : s.txBusy with
    | true =>
      have h := step_of_busy hrst hstep hbusy
      rw [shiftLine_dropAck_readPort] at h
      obtain ⟨hsnap, ⟨hbusy', hbyte, hbit, hcell⟩, -⟩ := h
      obtain ⟨ebusy, ebyte, ebit, ecell⟩ := ruleEdge_line_of_busy hrst hbusy
      refine ⟨?_, hbusy'.trans ebusy, hbyte.trans ebyte, hbit.trans ebit, hcell.trans ecell⟩
      simpa [SameSnap, ruleEdge, hat, hlaunch] using hsnap
    | false =>
      obtain ⟨hsnap, hline, -⟩ := step_of_idle hrst hstep hlaunch hbusy
      simpa [SameSnap, SameLine, ruleEdge, nextCellCnt, frameEnds, byteEnds, cellEnds, hat, hlaunch,
        hbusy] using And.intro hsnap hline

/-- Every register has the value of its rule. -/
theorem step_eq_ruleEdge : t = ruleEdge s s.input := by
  have hat := launchAt_of_no_reset hrst
  obtain ⟨hack, hclr, hrd⟩ := step_latches hrst hstep
  obtain ⟨hblink, hext⟩ := step_requests hrst hstep
  obtain ⟨hdec, hgrp⟩ := step_microstate hrst hstep
  obtain ⟨hsnap, hbusy, hbyte, hbit, hcell⟩ := step_line hrst hstep
  obtain ⟨u, hu, hphase, hcnt⟩ := step_timer hrst
  obtain rfl := Host.Outcome.next.inj (hstep.symm.trans hu)
  apply State.ext
  case params => exact (step_params hstep :)
  case inputs => exact step_inputs hrst hstep
  case T => exact step_T hrst hstep
  case rptBuf => exact step_rptBuf hrst hstep
  case reqBlink => rw [hblink, ← hat]; rfl
  case reqExt => rw [hext, ← hat]; rfl
  case ackPulse => rw [hack, ← hat]; rfl
  all_goals assumption

end

/-- Settles O39: with reset the step is the reset edge, and without it each register follows its
rule. -/
theorem stepIsTheSimultaneousEdge : Obligations.StepIsTheSimultaneousEdge := by
  intro s
  cases hrst : s.input.rst with
  | true => rw [step_of_reset hrst, edge, if_pos hrst]
  | false =>
    rw [edge, if_neg (by simp [hrst]), step_run]
    exact congrArg Host.Outcome.next (step_eq_ruleEdge hrst (step_run s))

end Sys2Proof.Machine
end

section
/-!
What the edge says of single cycles: the request flags and the acknowledgement, the application of a
clear, and the read index, which reaches the read data alone.
-/

namespace Sys2Proof.Machine

/-- A cycle without reset, with every register by its rule. -/
theorem step_of_no_reset {s : State} (hrst : s.input.rst = false) :
    step s = .next (ruleEdge s s.input) := by
  rw [stepIsTheSimultaneousEdge s, edge, if_neg (by simp [hrst])]

/-! ### The request flags -/

/-- A clear that is pending stays so outside IDLE (spec/41_table_port.md R157). -/
theorem clrPend_kept_iff (s : State) :
    (s.clrPend && !s.clearDue) = true ↔ s.clrPend = true ∧ s.decState ≠ .idle := by
  cases hclr : s.clrPend <;> simp [State.clearDue, hclr]

theorem launch_serves_wait_iff (s : State) :
    (s.launchDue && s.decState == .wait) = true ↔ s.decState = .wait ∧ LaunchEnabled s := by
  rw [Bool.and_eq_true, launchDue_iff, beq_iff_eq, and_comm]

/-- Settles O42: each flag's rule is "set, or held and not cleared", with the conditions of the tick
and the launch as the spec names them. -/
theorem setWinsOverClear : Obligations.SetWinsOverClear := by
  intro s hrst
  have hstep := step_of_no_reset hrst
  obtain ⟨hack, hclr, -⟩ := step_latches hrst hstep
  obtain ⟨hblink, hext⟩ := step_requests hrst hstep
  refine ⟨_, hstep, ?_, ?_, ?_, ?_⟩
  · rw [hblink, Bool.or_eq_true, tickDue_iff, Bool.and_eq_true, Bool.not_eq_true', ← launchDue_iff,
      Bool.not_eq_true]
  · rw [hext, Bool.or_eq_true, Bool.and_eq_true, Bool.not_eq_true', ← launchDue_iff,
      Bool.not_eq_true]
  · rw [hclr, Bool.or_eq_true, clrPend_kept_iff]
  · rw [hack, launch_serves_wait_iff]

/-! ### The clear -/

/-- Settles O43: in IDLE the clear is the table's one writer, while snapshot and report follow their
own rules from the state before the edge. -/
theorem clearIsAppliedWhenIdle : Obligations.ClearIsAppliedWhenIdle := by
  intro s hrst hclr
  have hstep := step_of_no_reset hrst
  obtain ⟨-, hpend, -⟩ := step_latches hrst hstep
  refine ⟨_, hstep, fun hidle => ⟨fun k => ?_, fun hlaunch => ?_, fun hvalid => ⟨?_, ?_⟩⟩,
    fun hbusy => ?_, fun hwait => ?_⟩
  · obtain ⟨u, hu, -, -, hread⟩ := step_decoder_of_idle hrst hidle
    obtain rfl := Host.Outcome.next.inj (hstep.symm.trans hu)
    rw [hread, if_pos hclr]
  · obtain ⟨-, hlaunched, -⟩ := snapshotChangesOnlyAtLaunch s _ hrst hstep
    obtain ⟨-, -, -, -, hsnap⟩ := hlaunched hlaunch
    exact hsnap
  · simp [ruleEdge, hidle, hvalid]
  · simp [ruleEdge, hidle, hvalid]
  · rw [hpend, Bool.or_eq_true, clrPend_kept_iff]
    exact .inr ⟨hclr, hbusy⟩
  · obtain ⟨u, hu, -, -, hT⟩ := step_decoder_of_wait hrst hwait
    obtain rfl := Host.Outcome.next.inj (hstep.symm.trans hu)
    exact fun k => by rw [hT]

/-! ### The read index -/

/-- The same inputs with another read index. -/
def withReadIndex (i : Inputs) (idx : Byte) : Inputs := { i with rdIdx := idx }

/-- No rule of the edge reads `rd_idx`, but that of the read data (spec/20_memory.md R73). -/
theorem edge_withReadIndex (s : State) (idx : Byte) :
    edge (s.withInput (withReadIndex s.input idx)) (withReadIndex s.input idx) =
      { edge s s.input with rdPort := readEntry s.T idx.toNat } := by
  have hrst : (withReadIndex s.input idx).rst = s.input.rst := rfl
  unfold edge
  rw [hrst]
  split <;> rfl

theorem edge_rdPort (s : State) (i : Inputs) : (edge s i).rdPort = readEntry s.T i.rdIdx.toNat := by
  unfold edge
  split <;> rfl

/-- Settles O47: both steps are the edge, whose registers do not depend on the read index. -/
theorem readIndexChangesNoRegister : Obligations.ReadIndexChangesNoRegister := by
  intro s idx
  have hother : step (s.withInput (withReadIndex s.input idx)) =
      .next { edge s s.input with rdPort := readEntry s.T idx.toNat } := by
    rw [stepIsTheSimultaneousEdge, ← edge_withReadIndex]
    rfl
  exact ⟨_, _, stepIsTheSimultaneousEdge s, hother,
    ⟨fun _ => rfl, ⟨rfl, rfl, rfl⟩, ⟨rfl, rfl⟩, rfl, rfl, ⟨rfl, rfl⟩, rfl, rfl, rfl, rfl, rfl⟩,
    ⟨rfl, rfl⟩, edge_rdPort s s.input, rfl⟩

end Sys2Proof.Machine
end

section
/-!
Every operation answers a next state (spec/60_exceptions.md R230): each meaning is one register
update, under a test of its own or without one.
-/

namespace Sys2Proof.Machine

/-- A register update under a test answers a next state either way. -/
theorem exists_next_of_ite (c : Prop) [Decidable c] (s t : State) :
    ∃ u, (if c then .next s else .next t : Host.Outcome State Fault Refusal) = .next u :=
  ⟨if c then s else t, (apply_ite Host.Outcome.next c s t).symm⟩

theorem exec_answers_next (i : Instr) (s : State) : ∃ t, exec i s = .next t := by
  cases i with
  | nop r g b => exact exists_next_of_ite ..
  | setOff x idx r g b => exact exists_next_of_ite ..
  | setOn x idx r g b => exact exists_next_of_ite ..
  | setBlink x idx r g b => exact exists_next_of_ite ..
  | setPs3 x idx r g b => exact exists_next_of_ite ..
  | rst => exact ⟨_, rfl⟩
  | report data => exact exists_next_of_ite ..
  | clr => exact ⟨_, rfl⟩
  | render => exact ⟨_, rfl⟩
  | get idx => exact ⟨_, rfl⟩
  | tick => exact exists_next_of_ite ..
  | launch => exact exists_next_of_ite ..
  | shift => exact exists_next_of_ite ..
  | done => exact exists_next_of_ite ..

theorem step_answers_next (s : State) : ∃ t, step s = .next t :=
  ⟨_, stepIsTheSimultaneousEdge s⟩

/-- Settles O35: the step is the edge, and each operation is a register update. -/
theorem everyStepAnswersNext : Obligations.EveryStepAnswersNext :=
  ⟨step_answers_next, exec_answers_next⟩

end Sys2Proof.Machine
end

section
/-!
The script's group forms and the fixed words (spec/30_encoding.md R98, R101 to R103): `SET.OFF`
never spells header 0x00, numbers out of range are refused, and port operations are what their
inputs select.
-/

namespace Sys2Proof.Machine

theorem assembleSet_of_in_range (x : Bool) (ps : PsCode) {idx r g b : Nat}
    (h : idx < 32 ∧ r < 256 ∧ g < 256 ∧ b < 256) :
    assembleSet x ps idx r g b =
      some ⟨mkHeader x ps (BitVec.ofNat 5 idx), BitVec.ofNat 8 r, BitVec.ofNat 8 g,
        BitVec.ofNat 8 b⟩ := if_pos h

theorem assembleSet_of_out_of_range (x : Bool) (ps : PsCode) {idx r g b : Nat}
    (h : 32 ≤ idx ∨ 256 ≤ r ∨ 256 ≤ g ∨ 256 ≤ b) : assembleSet x ps idx r g b = none :=
  if_neg (by omega)

/-- A form sets bit 7 exactly for LED 0, so its `SET.OFF` has a spelling of its own (R102). -/
theorem assembled_setOff_wellFormed {idx : Nat} (h : idx < 32) (r g b : Byte) :
    (Instr.setOff (idx == 0) (BitVec.ofNat 5 idx) r g b).WellFormed := by
  by_cases h0 : idx = 0
  · subst h0; rfl
  · have hne : BitVec.ofNat 5 idx ≠ 0#5 := fun he => h0 (by
      simpa [Nat.mod_eq_of_lt h] using congrArg BitVec.toNat he)
    simpa [Instr.WellFormed, Instr.wellFormed, h0] using hne

theorem assembleReport_of_too_long {fs : List GroupForm} (h : 16 < fs.length) :
    assembleReport fs = none := if_neg (by omega)

/-- Settles O8: an assembled `SET.OFF` is well-formed, so it decodes back to itself and is no `NOP`.
-/
theorem notationNeverSpellsSetOffAsNop : Obligations.NotationNeverSpellsSetOffAsNop := by
  refine ⟨fun idx r g b hidx hr hg hb => ?_, fun _ => rfl, fun idx r g b h => ?_,
    fun fs => assembleReport_of_too_long⟩
  · have hdecode := decodeGroup_setOff _ _ _ _ _
      (assembled_setOff_wellFormed hidx (BitVec.ofNat 8 r) (BitVec.ofNat 8 g) (BitVec.ofNat 8 b))
    obtain ⟨h0, -⟩ := header_of_decodeGroup_setOff hdecode
    exact ⟨_, assembleSet_of_in_range _ _ ⟨hidx, hr, hg, hb⟩, h0, hdecode⟩
  · exact ⟨assembleSet_of_out_of_range _ _ h, assembleSet_of_out_of_range _ _ h,
      assembleSet_of_out_of_range _ _ h, assembleSet_of_out_of_range _ _ h⟩

/-! ### Ports -/

theorem encodePorts_of_encode {i : Instr} {p : Inputs} (h : encode i = some (.ports p)) :
    encodePorts i = some p := by
  unfold encode at h
  cases hgroup : encodeGroup i with
  | some w => simp [hgroup] at h
  | none => simpa [hgroup] using h

/-- Settles O2, operation by operation: each drives its own strobe alone, and `rst` overrides the
strobes. -/
theorem portEncodingSelectsItsOperation : Obligations.PortEncodingSelectsItsOperation := by
  refine ⟨fun i p h => ?_, fun p hrst => ?_⟩
  · have hports := encodePorts_of_encode h
    cases i with
    | rst => obtain rfl := Option.some.inj hports; rfl
    | report data => obtain rfl := Option.some.inj hports; rfl
    | clr => obtain rfl := Option.some.inj hports; rfl
    | render => obtain rfl := Option.some.inj hports; rfl
    | get idx => obtain rfl := Option.some.inj hports; simp [decode, decodePorts, Inputs.quiet]
    | _ => exact absurd hports nofun
  · simp [decode, decodePorts, hrst]

/-- Settles O6: each word is evaluated. -/
theorem specWordsDecode : Obligations.SpecWordsDecode := by
  unfold Obligations.SpecWordsDecode
  decide

end Sys2Proof.Machine
end

section
/-!
The bytes of a frame (spec/43_waveform_encoder.md R183, R184, R191): idle regions around the 768
data bytes, and the high line bits counted byte by byte.
-/

namespace Sys2Proof.Machine

/-- Settles O31: outside the data region the waveform is idle, and each data byte is the expansion
of a bit. -/
theorem waveformRegions : Obligations.WaveformRegions := by
  refine fun snap p _ => ⟨waveByte_idle snap p, fun hlo hhi => ?_⟩
  obtain ⟨k, j, hk, hj, rfl⟩ : ∃ k j, k < 32 ∧ j < 24 ∧ p = 4 + 24 * k + j :=
    ⟨(p - 4) / 24, (p - 4) % 24, by omega, by omega, by omega⟩
  rw [waveByte_data snap k j hk hj]
  cases snap[k].getLsbD (23 - j) with
  | true => exact .inl rfl
  | false => exact .inr rfl

/-! ### High line bits -/

/-- The high line bits that waveform byte `v` puts on the line. -/
def highBits (v : Byte) : Nat := ∑ t ∈ Finset.range 8, if v.getLsbD (7 - t) then 1 else 0

theorem highLineBits_eq_sum_highBits (snap : Vector GrbWord 32) :
    highLineBits snap = ∑ p ∈ Finset.range 1022, highBits (waveByte snap p) := rfl

/-- Five high line bits for a 1 bit, two for a 0 bit (R182). -/
theorem highBits_enc (bit : Bool) : highBits (enc bit) = 2 + 3 * if bit then 1 else 0 := by
  cases bit <;> decide

theorem highBits_of_idle {snap : Vector GrbWord 32} {p : Nat} (h : p < 4 ∨ 772 ≤ p) :
    highBits (waveByte snap p) = 0 := by
  rw [waveByte_idle snap p h]
  decide

/-- Only the 768 data bytes have high line bits (R184). -/
theorem sum_highBits_data_region (snap : Vector GrbWord 32) :
    highLineBits snap = ∑ q ∈ Finset.range (24 * 32), highBits (waveByte snap (4 + q)) := by
  have hpre : ∑ p ∈ Finset.range 4, highBits (waveByte snap p) = 0 :=
    Finset.sum_eq_zero fun p hp => highBits_of_idle (.inl (Finset.mem_range.1 hp))
  have hpost : ∑ p ∈ Finset.range 250, highBits (waveByte snap (4 + (24 * 32 + p))) = 0 :=
    Finset.sum_eq_zero fun p _ => highBits_of_idle (.inr (by omega))
  rw [highLineBits_eq_sum_highBits, show 1022 = 4 + (24 * 32 + 250) from rfl,
    Finset.sum_range_add, Finset.sum_range_add, hpre, hpost, Nat.zero_add, Nat.add_zero]

/-- A sum over `b * a` places, block by block. -/
theorem sum_range_blocks (f : Nat → Nat) (b a : Nat) :
    ∑ q ∈ Finset.range (b * a), f q =
      ∑ k ∈ Finset.range a, ∑ j ∈ Finset.range b, f (b * k + j) := by
  induction a with
  | zero => simp
  | succ a ih => rw [Nat.mul_succ, Finset.sum_range_add, ih, Finset.sum_range_succ]

/-- The 24 bytes of one LED: 48 high line bits and three more for each 1 bit of its word, which is
sent most significant bit first (R183). -/
theorem sum_highBits_of_led (snap : Vector GrbWord 32) (k : Nat) (hk : k < 32) :
    ∑ j ∈ Finset.range 24, highBits (waveByte snap (4 + (24 * k + j))) =
      48 + 3 * ∑ j ∈ Finset.range 24, if snap[k].getLsbD j then 1 else 0 := by
  calc ∑ j ∈ Finset.range 24, highBits (waveByte snap (4 + (24 * k + j)))
      = ∑ j ∈ Finset.range 24, (2 + 3 * if snap[k].getLsbD (23 - j) then 1 else 0) :=
        Finset.sum_congr rfl fun j hj => by
          rw [← Nat.add_assoc, waveByte_data snap k j hk (Finset.mem_range.1 hj), highBits_enc]
    _ = 48 + 3 * ∑ j ∈ Finset.range 24, if snap[k].getLsbD (23 - j) then 1 else 0 := by
        rw [Finset.sum_add_distrib, ← Finset.mul_sum]; rfl
    _ = 48 + 3 * ∑ j ∈ Finset.range 24, if snap[k].getLsbD j then 1 else 0 := by
        rw [Finset.sum_range_reflect fun j => if snap[k].getLsbD j then 1 else 0]

theorem highLineBits_eq (snap : Vector GrbWord 32) :
    highLineBits snap = 1536 + 3 * onesOf snap := by
  rw [sum_highBits_data_region, sum_range_blocks (fun q => highBits (waveByte snap (4 + q))),
    Finset.sum_range]
  calc ∑ k : Fin 32, ∑ j ∈ Finset.range 24, highBits (waveByte snap (4 + (24 * k.val + j)))
      = ∑ k : Fin 32, (48 + 3 * ∑ j ∈ Finset.range 24, if snap[k].getLsbD j then 1 else 0) :=
        Finset.sum_congr rfl fun k _ => sum_highBits_of_led snap k.val k.isLt
    _ = 1536 + 3 * onesOf snap := by
        rw [Finset.sum_add_distrib, ← Finset.mul_sum]; rfl

theorem onesOf_off (ph : Bool) : onesOf (snapOf (Vector.replicate 32 offEntry) ph) = 0 := by
  have hword : grb (eff offEntry ph) = 0#24 := by
    rw [eff_of_ps_zero rfl]; rfl
  simp [onesOf, hword]

/-- Settles O30: each 0 bit has two high line bits, each 1 bit five, and an all-off table has no
1 bit. -/
theorem highLineBitsOfAFrame : Obligations.HighLineBitsOfAFrame :=
  ⟨highLineBits_eq, fun ph => by rw [highLineBits_eq, onesOf_off]⟩

end Sys2Proof.Machine
end

section
/-!
Runs counted in cycles: the last group of an index (spec/40_command_decoder.md R129) and the tick
times from reset (spec/42_blink_timer.md R175).
-/

namespace Sys2Proof.Machine

/-! ### The last group of an index -/

/-- The entry that group `j` sets stays until group `n`, if none of the groups between names its
index. -/
theorem readEntry_applyGroups_of_last (T : Vector Entry 32) (buf : Vector Byte 64) (j : Fin 16)
    (h0 : (groupAt buf j).header ≠ 0x00#8)
    (hlater : ∀ i : Fin 16, j < i → (groupAt buf i).header = 0x00#8 ∨
      headerIdx (groupAt buf i).header ≠ headerIdx (groupAt buf j).header)
    (n : Nat) (hj : j.val < n) (hn : n ≤ 16) :
    readEntry (applyGroups T buf n) (headerIdx (groupAt buf j).header).toNat =
      ⟨(groupAt buf j).r, (groupAt buf j).g, (groupAt buf j).b,
        headerPs (groupAt buf j).header⟩ := by
  induction n, hj using Nat.le_induction with
  | base => rw [Nat.succ_eq_add_one, applyGroups_succ, readEntry_applyGroup, if_pos ⟨h0, rfl⟩]
  | succ n hj ih =>
    have hkeep := hlater ⟨n, hn⟩ hj
    rw [applyGroups_succ T buf ⟨n, hn⟩, readEntry_applyGroup, if_neg, ih (by omega)]
    rintro ⟨hne, hidx⟩
    exact hkeep.elim hne fun hother => hother (BitVec.eq_of_toNat_eq hidx.symm)

/-- Settles O52: the sixteen groups are applied in order, and no group after the last of its index
writes the entry. -/
theorem lastGroupOfAnIndexWins : Obligations.LastGroupOfAnIndexWins := by
  intro s j hrun hgrp hreset h0 hlater
  obtain ⟨-, t, hruns, -, -, hT⟩ := reportRunsSixteenGroupsInOrder s hrun hgrp hreset
  refine ⟨t, hruns, ?_⟩
  rw [hT]
  exact readEntry_applyGroups_of_last s.T s.rptBuf j h0 hlater 16 j.isLt le_rfl

/-! ### Tick times -/

/-- After `n` of `n + k` cycles without reset, `k` are left. -/
theorem State.NoReset.after_runs {n k : Nat} {s t : State} (h : s.NoReset (n + k))
    (hruns : Runs n s t) : t.NoReset k := by
  induction n generalizing s with
  | zero =>
    obtain rfl := (runs_zero s t).1 hruns
    rwa [Nat.zero_add] at h
  | succ n ih =>
    obtain ⟨u, hstep, hruns'⟩ := (runs_succ n s t).1 hruns
    rw [Nat.add_right_comm] at h
    exact ih (h.tail h.head hstep) hruns'

/-- The last cycle of a period is followed by the first of the next. -/
theorem succ_of_last_in_period {n d : Nat} (hd : 0 < d) (hlast : n % d = d - 1) :
    (n + 1) / d = n / d + 1 ∧ (n + 1) % d = 0 := by
  have hn := Nat.mod_add_div n d
  rw [Nat.div_mod_unique hd, Nat.mul_succ]
  omega

/-- Any other cycle is followed by the next of its period. -/
theorem succ_within_period {n d : Nat} (hd : 0 < d) (hshort : n % d ≠ d - 1) :
    (n + 1) / d = n / d ∧ (n + 1) % d = n % d + 1 := by
  have hn := Nat.mod_add_div n d
  have hlt := Nat.mod_lt n hd
  rw [Nat.div_mod_unique hd]
  omega

/-- The divider and the phase as R175 gives them for cycle `n` after reset. -/
def TimerAt (p : Config.Params) (n : Nat) (t : State) : Prop :=
  t.params = p ∧ t.blinkCnt = n % p.blinkDiv ∧ (t.phase = true ↔ n / p.blinkDiv % 2 = 0)

theorem timerAt_resetOf (p : Config.Params) (is : List Inputs) :
    TimerAt p 0 { State.resetOf p with inputs := is } := by
  simp [TimerAt]

/-- One cycle later: at the end of a period the count restarts and the period's parity changes. -/
theorem TimerAt.next {p : Config.Params} {n : Nat} {s : State} (h : TimerAt p n s)
    (hrst : s.input.rst = false) : ∃ t, step s = .next t ∧ TimerAt p (n + 1) t := by
  obtain ⟨hparams, hcnt, hphase⟩ := h
  obtain ⟨t, hstep, hphase', hcnt'⟩ := step_timer hrst
  refine ⟨t, hstep, (step_params hstep).trans hparams, ?_⟩
  have htick : s.tickDue = true ↔ n % p.blinkDiv = p.blinkDiv - 1 := by
    rw [tickDue_iff, hcnt, hparams]
  rw [hphase', hcnt', nextBlinkCnt, hcnt]
  by_cases hlast : n % p.blinkDiv = p.blinkDiv - 1
  · obtain ⟨hdiv, hmod⟩ := succ_of_last_in_period p.blinkDiv_pos hlast
    rw [if_pos (htick.2 hlast), if_pos (htick.2 hlast), hdiv, hmod, Bool.not_eq_true',
      ← Bool.not_eq_true, hphase]
    omega
  · obtain ⟨hdiv, hmod⟩ := succ_within_period p.blinkDiv_pos hlast
    rw [if_neg (mt htick.1 hlast), if_neg (mt htick.1 hlast), hdiv, hmod]
    exact ⟨rfl, hphase⟩

theorem exists_timerAt (p : Config.Params) (is : List Inputs) (n : Nat)
    (hreset : ({ State.resetOf p with inputs := is } : State).NoReset n) :
    ∃ t, Runs n { State.resetOf p with inputs := is } t ∧ TimerAt p n t := by
  induction n with
  | zero => exact ⟨_, (runs_zero _ _).2 rfl, timerAt_resetOf p is⟩
  | succ n ih =>
    obtain ⟨t, hruns, ht⟩ := ih fun k hk => hreset k (by omega)
    obtain ⟨u, hstep, hu⟩ := ht.next (hreset.after_runs hruns).head
    exact ⟨u, runs_snoc n _ t u hruns hstep, hu⟩

/-- Settles O56, by induction on the cycles from reset. -/
theorem tickTimesFromReset : Obligations.TickTimesFromReset := by
  intro p is n hreset
  obtain ⟨t, hruns, -, hcnt, hphase⟩ := exists_timerAt p is n hreset
  exact ⟨t, hruns, hcnt, hphase⟩

end Sys2Proof.Machine
end

section
/-!
From a report to its acknowledgement (spec/40_command_decoder.md R134): one cycle to take it,
sixteen to apply it, and in WAIT the rest of the frame in flight.
-/

namespace Sys2Proof.Machine

/-! ### The cycles of a report -/

section
variable {s t : State} (hrst : s.input.rst = false) (hstep : step s = .next t)
include hrst hstep

/-- Only a launch that serves WAIT acknowledges (R131). -/
theorem step_ackPulse_of_ne_wait (hne : s.decState ≠ .wait) : t.ackPulse = false := by
  obtain ⟨hack, -⟩ := step_latches hrst hstep
  rw [hack, beq_false_of_ne hne, Bool.and_false]

/-- A report offered to an IDLE decoder is taken (R121). -/
theorem step_takes_report (hidle : s.decState = .idle) (hvalid : s.input.rptValid = true) :
    t.decState = .run ∧ t.decGrp = 0 := by
  obtain ⟨u, hu, hdec, hgrp, -⟩ := step_decoder_of_idle hrst hidle
  obtain rfl := Host.Outcome.next.inj (hstep.symm.trans hu)
  exact ⟨by simpa [hvalid] using hdec, by simpa [hvalid] using hgrp⟩

/-- A waiting decoder is served as soon as the transmitter is idle (R131, R132). -/
theorem step_of_wait_of_idle (hwait : s.decState = .wait) (hidle : s.txBusy = false) :
    t.ackPulse = true ∧ t.decState = .idle ∧ t.txBusy = true := by
  have hlaunch : s.launchDue = true := by simp [State.launchDue, State.anyReq, hwait, hidle]
  obtain ⟨hack, -⟩ := step_latches hrst hstep
  obtain ⟨-, ⟨hbusy, -⟩, -⟩ := step_of_launch hrst hstep hlaunch
  obtain ⟨u, hu, hdec, -⟩ := step_decoder_of_wait hrst hwait
  obtain rfl := Host.Outcome.next.inj (hstep.symm.trans hu)
  exact ⟨by simpa [hlaunch, hwait] using hack, by simpa [hlaunch] using hdec, hbusy⟩

/-- While a frame is in flight the decoder goes on waiting. -/
theorem step_of_wait_of_busy (hwait : s.decState = .wait) (hbusy : s.txBusy = true) :
    t.ackPulse = false ∧ t.decState = .wait := by
  have hno : s.launchDue = false := by simp [State.launchDue, hbusy]
  obtain ⟨hack, -⟩ := step_latches hrst hstep
  obtain ⟨u, hu, hdec, -⟩ := step_decoder_of_wait hrst hwait
  obtain rfl := Host.Outcome.next.inj (hstep.symm.trans hu)
  exact ⟨by simpa [hno] using hack, by simpa [hno] using hdec⟩

end

/-- Settles O54: the report is taken in the first cycle and applied in the next sixteen; the
eighteenth finds the transmitter idle or busy. -/
theorem acknowledgementAfterEighteenCycles : Obligations.AcknowledgementAfterEighteenCycles := by
  intro s hidle hvalid hreset
  obtain ⟨r, hstep⟩ := step_answers_next s
  obtain ⟨hrun, hgrp⟩ := step_takes_report hreset.head hstep hidle hvalid
  have hreset' := hreset.tail hreset.head hstep
  obtain ⟨-, t, hruns, hwait, -⟩ :=
    reportRunsSixteenGroupsInOrder r hrun hgrp fun k hk => hreset' k (by omega)
  have hrst : t.input.rst = false := (hreset'.after_runs (k := 1) hruns).head
  have hruns' : Runs 17 s t := (runs_succ 16 s t).2 ⟨r, hstep, hruns⟩
  obtain ⟨u, hlast⟩ := step_answers_next t
  exact ⟨t, u, hruns', hwait, runs_snoc 17 s t u hruns' hlast,
    step_of_wait_of_idle hrst hlast hwait, step_of_wait_of_busy hrst hlast hwait⟩

/-! ### The first acknowledgement -/

/-- `n` cycles from `s` there is an acknowledgement and an IDLE decoder, and neither in the cycles
between. -/
def FirstAck (s : State) (n : Nat) : Prop :=
  (∃ t, Runs n s t ∧ t.ackPulse = true ∧ t.decState = .idle) ∧
  ∀ m, 1 ≤ m → m < n → ∃ t, Runs m s t ∧ t.ackPulse = false ∧ t.decState ≠ .idle

theorem firstAck_one {s t : State} (hstep : step s = .next t) (hack : t.ackPulse = true)
    (hidle : t.decState = .idle) : FirstAck s 1 :=
  ⟨⟨t, runs_snoc 0 s s t ((runs_zero s s).2 rfl) hstep, hack, hidle⟩, fun m _ _ => by omega⟩

/-- A cycle without acknowledgement before the others. -/
theorem FirstAck.cons {s t : State} {n : Nat} (h : FirstAck t n) (hstep : step s = .next t)
    (hack : t.ackPulse = false) (hbusy : t.decState ≠ .idle) : FirstAck s (n + 1) := by
  obtain ⟨⟨u, hruns, hack', hidle⟩, hbefore⟩ := h
  refine ⟨⟨u, (runs_succ n s u).2 ⟨t, hstep, hruns⟩, hack', hidle⟩, fun m hm hlt => ?_⟩
  obtain ⟨m, rfl⟩ := Nat.exists_eq_add_of_le' hm
  cases m with
  | zero => exact ⟨t, runs_snoc 0 s s t ((runs_zero s s).2 rfl) hstep, hack, hbusy⟩
  | succ m =>
    obtain ⟨v, hruns, hv⟩ := hbefore (m + 1) (by omega) (by omega)
    exact ⟨v, (runs_succ _ s v).2 ⟨t, hstep, hruns⟩, hv⟩

/-- At most `k` more cycles pass until a frame in flight is over. -/
def FrameWithin (s : State) (k : Nat) : Prop :=
  s.txBusy = true → 8176 * s.params.cellDiv - s.framePos ≤ k

theorem FrameWithin.idle {s : State} (h : FrameWithin s 0) : s.txBusy = false := by
  cases hbusy : s.txBusy with
  | false => rfl
  | true =>
    have hleft := h hbusy
    have hlt := framePos_lt s
    omega

/-- Without a launch a frame in flight comes nearer to its end, and none starts. -/
theorem FrameWithin.next {s t : State} {k : Nat} (h : FrameWithin s (k + 1))
    (hrst : s.input.rst = false) (hstep : step s = .next t) (hno : s.launchDue = false) :
    FrameWithin t k := by
  intro hbusy
  cases hbusy' : s.txBusy with
  | false =>
    obtain ⟨-, ⟨hidle, -⟩, -⟩ := step_of_idle hrst hstep hno hbusy'
    exact absurd (hbusy.symm.trans (hidle.trans hbusy')) (by decide)
  | true =>
    have hleft := h hbusy'
    obtain ⟨-, ⟨-, hpos⟩ | ⟨hidle, -⟩⟩ := step_framePos hrst hstep hbusy'
    · rw [step_params hstep, hpos]
      omega
    · exact absurd (hbusy.symm.trans hidle) (by decide)

/-- A RUN cycle moves to the next group, without acknowledgement and without a launch. -/
theorem step_of_run {s t : State} {k : Nat} (hrst : s.input.rst = false)
    (hstep : step s = .next t) (hrun : s.decState = .run) (hframe : FrameWithin s (k + 1)) :
    NextGroup s t ∧ t.ackPulse = false ∧ FrameWithin t k := by
  obtain ⟨u, hu, hnext, -⟩ := step_decoder_of_run hrst hrun
  obtain rfl := Host.Outcome.next.inj (hstep.symm.trans hu)
  exact ⟨hnext, step_ackPulse_of_ne_wait hrst hstep (by simp [hrun]),
    hframe.next hrst hstep (by simp [State.launchDue, hrun])⟩

theorem firstAck_of_wait_of_idle {s : State} (hrst : s.input.rst = false)
    (hwait : s.decState = .wait) (hidle : s.txBusy = false) : FirstAck s 1 := by
  obtain ⟨t, hstep⟩ := step_answers_next s
  obtain ⟨hack, hidle', -⟩ := step_of_wait_of_idle hrst hstep hwait hidle
  exact firstAck_one hstep hack hidle'

/-- A waiting decoder is acknowledged at the edge after the frame in flight, by induction on the
cycles left of it. -/
theorem firstAck_of_wait (k : Nat) (s : State) (hwait : s.decState = .wait)
    (hframe : FrameWithin s k) (hreset : s.NoReset (k + 1)) :
    ∃ n, 1 ≤ n ∧ n ≤ k + 1 ∧ FirstAck s n := by
  induction k generalizing s with
  | zero =>
    exact ⟨1, le_rfl, le_rfl, firstAck_of_wait_of_idle hreset.head hwait hframe.idle⟩
  | succ k ih =>
    cases hbusy : s.txBusy with
    | false => exact ⟨1, le_rfl, by omega, firstAck_of_wait_of_idle hreset.head hwait hbusy⟩
    | true =>
      have hrst := hreset.head
      obtain ⟨t, hstep⟩ := step_answers_next s
      have hno : s.launchDue = false := by simp [State.launchDue, hbusy]
      obtain ⟨hack, hwait'⟩ := step_of_wait_of_busy hrst hstep hwait hbusy
      obtain ⟨n, hlo, hhi, hn⟩ := ih _ hwait' (hframe.next hrst hstep hno) (hreset.tail hrst hstep)
      exact ⟨n + 1, by omega, by omega, hn.cons hstep hack (by simp [hwait'])⟩

/-- A decoder in RUN with `j` groups after the current one is acknowledged after these groups and
the frame in flight, by induction on the groups. -/
theorem firstAck_of_run (j k : Nat) (s : State) (hrun : s.decState = .run)
    (hgrp : s.decGrp.val + j = 15) (hframe : FrameWithin s (k + j + 1))
    (hreset : s.NoReset (k + j + 2)) : ∃ n, j + 2 ≤ n ∧ n ≤ k + j + 2 ∧ FirstAck s n := by
  induction j generalizing s with
  | zero =>
    have hrst := hreset.head
    obtain ⟨t, hstep⟩ := step_answers_next s
    obtain ⟨hnext, hack, hframe'⟩ := step_of_run hrst hstep hrun hframe
    rw [NextGroup, if_pos (by omega)] at hnext
    obtain ⟨hwait, -⟩ := hnext
    obtain ⟨n, hlo, hhi, hn⟩ := firstAck_of_wait k t hwait hframe' (hreset.tail hrst hstep)
    exact ⟨n + 1, by omega, by omega, hn.cons hstep hack (by simp [hwait])⟩
  | succ j ih =>
    have hrst := hreset.head
    obtain ⟨t, hstep⟩ := step_answers_next s
    obtain ⟨hnext, hack, hframe'⟩ := step_of_run hrst hstep hrun hframe
    rw [NextGroup, if_neg (by omega)] at hnext
    obtain ⟨hrun', hgrp'⟩ := hnext
    obtain ⟨n, hlo, hhi, hn⟩ := ih t hrun' (by omega) hframe' (hreset.tail hrst hstep)
    exact ⟨n + 1, by omega, by omega, hn.cons hstep hack (by simp [hrun'])⟩

/-- Settles O55: no frame starts in RUN, so a frame in flight when the report is taken is over at
most 8176·CELL_DIV cycles later, and the decoder is then in WAIT or on its way to it. -/
theorem acknowledgementIsBounded : Obligations.AcknowledgementIsBounded := by
  intro s _ hidle hvalid hreset
  have hrst := hreset.head
  obtain ⟨t, hstep⟩ := step_answers_next s
  have hack := step_ackPulse_of_ne_wait hrst hstep (by simp [hidle])
  obtain ⟨hrun, hgrp⟩ := step_takes_report hrst hstep hidle hvalid
  have hpos := s.params.cellDiv_pos
  obtain ⟨k, hk⟩ : ∃ k, 8176 * s.params.cellDiv = k + 15 + 1 :=
    Nat.exists_eq_add_of_le' (by omega : 16 ≤ 8176 * s.params.cellDiv)
  have hframe : FrameWithin t (k + 15 + 1) := by
    intro _
    rw [step_params hstep, ← hk]
    exact Nat.sub_le _ _
  have hreset' := hreset.tail hrst hstep
  rw [hk] at hreset'
  obtain ⟨n, hlo, hhi, hn⟩ := firstAck_of_run 15 k _ hrun (by simp [hgrp]) hframe hreset'
  obtain ⟨hserved, hbefore⟩ := hn.cons hstep hack (by simp [hrun])
  exact ⟨n + 1, by omega, by omega, hserved, hbefore⟩

end Sys2Proof.Machine
end

section
/-!
Single operations (spec/30_encoding.md R96, R98, R99): what `exec` of a group, a port operation or
an event does to each register, and that an operation which is not selected does nothing.
-/

namespace Sys2Proof.Machine

/-! ### Group operations -/

@[simp] theorem exec_nop (r g b : Byte) (s : State) :
    exec (.nop r g b) s = if s.decState = .run then .next s.advanceGroup else .next s := rfl

theorem groupFrame_advanceGroup (s : State) : GroupFrame s s.advanceGroup := by
  simp [GroupFrame, SameBlink, SameReport, SameAck, SameStrobes, SameSnap, SameLine, SameHost]

theorem nextGroup_tableWrite_advanceGroup {s : State} (hrun : s.decState = .run) (idx : Nat)
    (e : Entry) : NextGroup s (s.tableWrite idx e).advanceGroup := by
  simpa only [NextGroup, State.tableWrite_decGrp] using
    advanceGroup_nextGroup ((State.tableWrite_decState s idx e).trans hrun)

/-- The store moves the microstate on, and otherwise changes the table alone. -/
theorem storeGroup_moves {s : State} (hrun : s.decState = .run) (idx : LedIdx) (e : Entry) :
    ∃ t, storeGroup idx e s = .next t ∧ NextGroup s t ∧ GroupFrame s t :=
  ⟨_, if_pos hrun, nextGroup_tableWrite_advanceGroup hrun idx.toNat e,
    groupFrame_tableWrite_advanceGroup s idx.toNat e⟩

theorem storeGroup_of_not_run {s : State} (hrun : s.decState ≠ .run) (idx : LedIdx) (e : Entry) :
    storeGroup idx e s = .next s := if_neg hrun

/-- Settles O9: `NOP` moves the microstate alone, and the four `SET`s share one store. -/
theorem groupOperationsMoveTheMicrostate : Obligations.GroupOperationsMoveTheMicrostate := by
  intro i s hgroup hrun
  cases i with
  | nop r g b =>
    exact ⟨_, if_pos hrun, advanceGroup_nextGroup hrun, groupFrame_advanceGroup s⟩
  | setOff x idx r g b => exact storeGroup_moves hrun idx _
  | setOn x idx r g b => exact storeGroup_moves hrun idx _
  | setBlink x idx r g b => exact storeGroup_moves hrun idx _
  | setPs3 x idx r g b => exact storeGroup_moves hrun idx _
  | _ => exact absurd hgroup (by simp [Instr.isGroup])

/-- Settles O10: `NOP` moves the microstate alone. -/
theorem nopLeavesTheTable : Obligations.NopLeavesTheTable := fun s r g b hrun =>
  ⟨s.advanceGroup, by rw [exec_nop, if_pos hrun], fun k => by rw [State.advanceGroup_T],
    groupFrame_advanceGroup s⟩

/-- Settles O15: `NOP` and the store of the `SET`s both test for RUN. -/
theorem groupOperationsNeedRun : Obligations.GroupOperationsNeedRun := by
  intro i s hgroup hrun
  cases i with
  | nop r g b => rw [exec_nop, if_neg hrun]
  | setOff x idx r g b => rw [exec_setOff, storeGroup_of_not_run hrun]
  | setOn x idx r g b => rw [exec_setOn, storeGroup_of_not_run hrun]
  | setBlink x idx r g b => rw [exec_setBlink, storeGroup_of_not_run hrun]
  | setPs3 x idx r g b => rw [exec_setPs3, storeGroup_of_not_run hrun]
  | _ => exact absurd hgroup (by simp [Instr.isGroup])

/-- Settles O16: the store does not take header bit 7. -/
theorem reservedHeaderBitIsIgnored : Obligations.ReservedHeaderBitIsIgnored := by
  intro s x y idx r g b
  simp only [exec_setOff, exec_setOn, exec_setBlink, exec_setPs3, and_self]

/-! ### Port operations -/

@[simp] theorem exec_rst (s : State) : exec .rst s = .next s.resetRegisters := rfl

@[simp] theorem exec_clr (s : State) : exec .clr s = .next s.latchClear := rfl

@[simp] theorem exec_render (s : State) : exec .render s = .next s.latchRender := rfl

@[simp] theorem exec_report (data : Vector Byte 64) (s : State) :
    exec (.report data) s = if s.decState = .idle then .next (s.captureReport data) else .next s :=
  rfl

theorem sameTable_of_T {s t : State} (h : t.T = s.T) : SameTable s t := fun _ => by rw [h]

/-- Settles O17: the registers of the reset state, one by one. -/
theorem rstResetsEveryRegister : Obligations.RstResetsEveryRegister := fun s =>
  ⟨s.resetRegisters, exec_rst s, by simp [RegistersReset], ⟨rfl, rfl⟩, rfl⟩

/-- Settles O20: in IDLE the report is captured, and nothing else is written. -/
theorem reportIsCapturedWhenIdle : Obligations.ReportIsCapturedWhenIdle := by
  refine ⟨fun s d hidle => ⟨s.captureReport d, by rw [exec_report, if_pos hidle], rfl, rfl, rfl,
    sameTable_of_T rfl, ⟨rfl, rfl, rfl⟩, rfl, ⟨rfl, rfl⟩, rfl, ⟨rfl, rfl, rfl, rfl⟩, ⟨rfl, rfl⟩,
    rfl⟩, fun s d hbusy => ?_⟩
  rw [exec_report, if_neg hbusy]

/-- Settles O21: each strobe writes the one request flag of its name. -/
theorem strobesLatchTheirRequests : Obligations.StrobesLatchTheirRequests := fun s =>
  ⟨⟨s.latchClear, exec_clr s, rfl, rfl, sameTable_of_T rfl, ⟨rfl, rfl, rfl⟩, ⟨rfl, rfl⟩, rfl, rfl,
      rfl, ⟨rfl, rfl, rfl, rfl⟩, ⟨rfl, rfl⟩, rfl⟩,
    ⟨s.latchRender, exec_render s, rfl, rfl, sameTable_of_T rfl, ⟨rfl, rfl, rfl⟩, ⟨rfl, rfl⟩, rfl,
      rfl, rfl, ⟨rfl, rfl, rfl, rfl⟩, ⟨rfl, rfl⟩, rfl⟩⟩

/-- Settles O22: the read data is the addressed entry, in range and past the end. -/
theorem getReadsOneEntry : Obligations.GetReadsOneEntry := fun s idx =>
  ⟨s.readPort idx, exec_get idx s, fun h => readEntry_of_lt s.T _ h,
    fun h => readEntry_of_ge s.T _ h, sameRegisters_readPort s idx, ⟨rfl, rfl⟩⟩

/-! ### Events -/

@[simp] theorem exec_tick (s : State) :
    exec .tick s = if s.tickDue then .next s.blinkTick else .next s := rfl

@[simp] theorem exec_launch (s : State) :
    exec .launch s = if s.launchDue then .next s.startFrame else .next s := rfl

@[simp] theorem exec_shift (s : State) :
    exec .shift s = if s.txBusy then .next s.shiftLine else .next s := rfl

@[simp] theorem exec_done (s : State) :
    exec .done s = if s.doneDue then .next s.finishFrame else .next s := rfl

/-- Settles O24: a tick writes the three timer registers, and is due at the divider's last value. -/
theorem tickTogglesThePhase : Obligations.TickTogglesThePhase := by
  refine ⟨fun s hlast => ⟨s.blinkTick, ?_, rfl, rfl, rfl, sameTable_of_T rfl, ⟨rfl, rfl⟩, rfl, rfl,
    ⟨rfl, rfl⟩, rfl, ⟨rfl, rfl, rfl, rfl⟩, ⟨rfl, rfl⟩, rfl⟩, fun s hshort => ?_⟩
  · rw [exec_tick, if_pos ((tickDue_iff s).2 hlast)]
  · rw [exec_tick, if_neg (mt (tickDue_iff s).1 hshort)]

/-- Settles O25: the registers a launch writes, by the microstate it finds. -/
theorem launchStartsAFrame : Obligations.LaunchStartsAFrame := by
  refine ⟨fun s hlaunch => ⟨s.startFrame, ?_, fun k hk => ?_, rfl, rfl, rfl, rfl, rfl, rfl,
    fun hwait => ?_, fun hidle => ?_, rfl, sameTable_of_T rfl, rfl, rfl, rfl, rfl, ⟨rfl, rfl⟩, rfl⟩,
    fun s hno => ?_⟩
  · rw [exec_launch, if_pos ((launchDue_iff s).2 hlaunch)]
  · rw [← snapOf_getElem]; rfl
  · simp [hwait]
  · simp [hidle]
  · rw [exec_launch, if_neg (mt (launchDue_iff s).1 hno)]

/-- A shift writes the transmitter registers alone. -/
theorem shiftLine_frame (s : State) :
    SameTable s s.shiftLine ∧ SameBlink s s.shiftLine ∧ SameMicrostate s s.shiftLine ∧
      SameReport s s.shiftLine ∧ SameAck s s.shiftLine ∧ SameStrobes s s.shiftLine ∧
      SameSnap s s.shiftLine ∧ SameHost s s.shiftLine ∧ s.shiftLine.rdPort = s.rdPort := by
  simp [SameTable, SameBlink, SameMicrostate, SameReport, SameAck, SameStrobes, SameSnap, SameHost]

/-- Settles O26: the serializer is in one of its four branches, which excludes the conditions of the
other three. -/
theorem shiftAdvancesTheSerializer : Obligations.ShiftAdvancesTheSerializer := by
  refine ⟨fun s hbusy => ⟨s.shiftLine, by rw [exec_shift, if_pos hbusy], ?_⟩, fun s hidle => ?_⟩
  · have hframe := shiftLine_frame s
    rcases shiftLine_spec s with
      ⟨hcell, _, e⟩ | ⟨hcell, hbit, e⟩ | ⟨hcell, hbit, hbyte, e⟩ | ⟨hcell, hbit, hbyte, e⟩
    · exact ⟨fun _ => by simp [e, hbusy], fun h => absurd hcell (by omega),
        fun h => absurd hcell (by omega), fun h => absurd hcell (by omega), hframe⟩
    · exact ⟨fun h => absurd h hcell, fun _ _ => by simp [e, hbusy], fun _ h => absurd h hbit.ne,
        fun _ h => absurd h hbit.ne, hframe⟩
    · exact ⟨fun h => absurd h hcell, fun _ h => absurd hbit h.ne, fun _ _ _ => by simp [e, hbusy],
        fun _ _ h => absurd h hbyte.ne, hframe⟩
    · exact ⟨fun h => absurd h hcell, fun _ h => absurd hbit h.ne, fun _ _ h => absurd hbyte h.ne,
        fun _ _ _ => by simp [e], hframe⟩
  · rw [exec_shift, if_neg (by simp [hidle])]

/-- Settles O27: `DONE` writes the four transmitter registers, in the last cycle of a frame. -/
theorem doneIdlesTheTransmitter : Obligations.DoneIdlesTheTransmitter := by
  refine ⟨fun s hlast => ⟨s.finishFrame, ?_, rfl, rfl, rfl, rfl, rfl, sameTable_of_T rfl,
    ⟨rfl, rfl, rfl⟩, ⟨rfl, rfl⟩, rfl, rfl, ⟨rfl, rfl⟩, ⟨rfl, rfl⟩, rfl⟩, fun s hno => ?_⟩
  · rw [exec_done, if_pos ((doneDue_iff s).2 hlast)]
  · rw [exec_done, if_neg (mt (doneDue_iff s).1 hno)]

/-- Settles O34: each status output is the register of its name, or the test for IDLE. -/
theorem statusOutputs : Obligations.StatusOutputs := fun _ _ =>
  ⟨beq_iff_eq, rfl, rfl, rfl, rfl⟩

end Sys2Proof.Machine
end

section
/-!
The operations a cycle selects (spec/30_encoding.md R98, R99): the list of the model is the spec's,
the step runs it, and an operation that is placed for a cycle is on it.
-/

namespace Sys2Proof.Machine

/-- Settles O36: the group runs on the state before the writers, which holds the table, microstate
and report of the cycle, and no other operation of the cycle writes them. -/
theorem stepRunsTheDecodedGroup : Obligations.StepRunsTheDecodedGroup := by
  rintro s _ hrst hrun rfl
  have hbefore : (beforeWriters s).decState = .run := by simp [beforeWriters_decState hrst, hrun]
  have hclear : s.clearDue = false := by simp [State.clearDue, hrun]
  obtain ⟨hgrp, hbuf, -⟩ := beforeWriters_frame s
  obtain ⟨t, hstep, ⟨hdec', hgrp'⟩, hbuf', hT', -⟩ := step_decoder hrst
  rw [decoderStep, hrun] at hdec' hgrp' hbuf' hT'
  refine ⟨beforeWriters s, groupStep s (beforeWriters s), t, exec_groupInstr s _ hbefore, hstep,
    ?_, hbefore, hgrp, hbuf, hT', hdec', hgrp', hbuf'⟩
  rw [beforeWriters_T hrst, hclear]
  rfl

/-- A cycle with `rst = 1` selects `GET` and `RST` alone (R98). -/
theorem mem_selected_of_reset {s : State} (hrst : s.input.rst = true) (i : Instr) :
    i ∈ s.selected ↔ i = .get s.input.rdIdx ∨ i = .rst := by
  simp [State.selected, State.readers, State.writers, hrst]

theorem mem_ite_singleton (c : Prop) [Decidable c] (a i : Instr) :
    i ∈ (if c then [a] else []) ↔ i = a ∧ c := by
  rw [List.mem_ite_nil_right, List.mem_singleton, and_comm]

section
variable {s : State} (hrst : s.input.rst = false) (i : Instr)
include hrst

theorem mem_readers_of_no_reset :
    i ∈ s.readers ↔ i = .get s.input.rdIdx ∨ (i = .shift ∧ s.txBusy = true) ∨
      (i = .done ∧ s.doneDue = true) ∨ (i = .launch ∧ s.launchDue = true) := by
  simp only [State.readers, hrst, Bool.false_eq_true, if_false, List.mem_cons, List.mem_append,
    mem_ite_singleton, or_assoc]

theorem mem_writers_of_no_reset :
    i ∈ s.writers ↔ (i = s.groupInstr ∧ s.decState = .run) ∨
      (i = .report s.input.rptData ∧ s.input.rptValid = true ∧ s.decState = .idle) ∨
      (i = .tick ∧ s.tickDue = true) ∨ (i = .clr ∧ s.input.clr = true) ∨
      (i = .render ∧ s.input.renderReq = true) := by
  simp only [State.writers, hrst, Bool.false_eq_true, if_false, List.mem_append,
    mem_ite_singleton, or_assoc, Bool.and_eq_true, beq_iff_eq]

end

/-- Settles O37: readers and writers run as `step_run` says, and the two lists hold the operations
of R98 and R99, with reset and without. -/
theorem stepRunsTheSelectedOperations : Obligations.StepRunsTheSelectedOperations := by
  refine ⟨fun s => ⟨_, _, readers_run s, writers_run_here s, step_run s⟩, fun s i => ?_⟩
  cases hrst : s.input.rst with
  | true => simp [mem_selected_of_reset hrst]
  | false =>
    rw [State.selected, List.mem_append, mem_readers_of_no_reset hrst,
      mem_writers_of_no_reset hrst, tickDue_iff, launchDue_iff, doneDue_iff]
    simp only [State.groupInstr, State.muxGroup, Bool.false_eq_true, false_and, true_and, false_or,
      or_assoc, or_comm, or_left_comm]

/-! ### Placed operations -/

theorem groupInstr_place (s : State) (w : GroupWord) :
    (s.place (.group w)).groupInstr = decodeGroup w :=
  congrArg decodeGroup (groupAt_setGroupAt s.rptBuf s.decGrp w)

/-- Settles O38: a placed group is the one under the multiplexer, and the placed inputs drive the
operation's own strobe, for `REPORT` with an IDLE decoder. -/
theorem placedOperationIsSelected : Obligations.PlacedOperationIsSelected := by
  refine ⟨fun s w => List.mem_append_right _ ?_, fun s i p h => ?_⟩
  · rw [mem_writers_of_no_reset rfl, groupInstr_place]
    exact .inl ⟨rfl, rfl⟩
  · have hports := encodePorts_of_encode h
    cases i with
    | rst =>
      obtain rfl := Option.some.inj hports
      exact (mem_selected_of_reset rfl _).2 (.inr rfl)
    | report data =>
      obtain rfl := Option.some.inj hports
      exact List.mem_append_right _ ((mem_writers_of_no_reset rfl _).2
        (.inr (.inl ⟨rfl, rfl, rfl⟩)))
    | clr =>
      obtain rfl := Option.some.inj hports
      exact List.mem_append_right _ ((mem_writers_of_no_reset rfl _).2
        (.inr (.inr (.inr (.inl ⟨rfl, rfl⟩)))))
    | render =>
      obtain rfl := Option.some.inj hports
      exact List.mem_append_right _ ((mem_writers_of_no_reset rfl _).2
        (.inr (.inr (.inr (.inr ⟨rfl, rfl⟩)))))
    | get idx =>
      obtain rfl := Option.some.inj hports
      exact List.mem_append_left _ ((mem_readers_of_no_reset rfl _).2 (.inl rfl))
    | _ => exact absurd hports nofun

end Sys2Proof.Machine
end
